-- ==== Sys2Proof/Word.lean ====
section
/-! DEFINITION. The widths of spec/00_scope.md R9: every value of EP0CTU is an unsigned number of a stated width. -/

namespace Sys2Proof

/-- `u8`. -/
abbrev Byte := BitVec 8

/-- `u16`. -/
abbrev Half := BitVec 16

/-- `u32`: buffer addresses, sizes, callback tokens, the guard depth (R8: ADDR_W = CB_W = LOCK_W = 32). -/
abbrev Word := BitVec 32

end Sys2Proof
end

