-- ==== Sys2Proof/Config.lean ====
section
/-! DEFINITION. The OPEN parameters of spec/00_scope.md R8. Each has a constant with no body (the value an implementation
fixes, of which nothing can be proved); State carries them as plain data (notes/assumptions/3.md), so a statement about
every state is a statement about every value of them. -/

namespace Sys2Proof

/-- The legal values of MPS0, the endpoint-0 max packet size (R8, D6). -/
inductive Mps0 where
  | b8
  | b16
  | b32
  | b64
  deriving DecidableEq, Repr, Inhabited

/-- What a descriptor accessor returns when the descriptor exists: where its bytes lie in the transfer-buffer memory and
how many there are (R8, D8). -/
structure Descriptor where
  addr : Word
  len  : Word
  deriving DecidableEq, Repr

/-- What TBM_ADMIT answers true for. A list of these gives any predicate of an address and a length
(TBM_ADMIT, R8, R48; notes/assumptions/4.md). -/
inductive Region where
  /-- `size` bytes from `base` up that exist, wrapping past the last address: every part of them is admitted. -/
  | span (base : Word) (size : Nat)
  /-- TBM_ADMIT(addr, n) and nothing beside it. -/
  | exactly (addr n : Word)
  deriving DecidableEq, Repr

/-- The OPEN parameters that no operation changes. An accessor is the list of the indices it answers. -/
structure Config where
  /-- MPS0 -/
  mps0              : Mps0
  /-- SELF_POWERED -/
  selfPowered       : Bool
  /-- DESC_DEVICE -/
  descDevice        : Option Descriptor
  /-- DESC_CONFIGURATION, by descriptor index -/
  descConfiguration : List (Byte × Descriptor)
  /-- DESC_STRING, by string kind 0 to 5 -/
  descString        : List (Byte × Descriptor)
  deriving DecidableEq, Repr

/-- MPS0, not fixed by the spec (U3). -/
opaque Config.openMps0 : Mps0

/-- SELF_POWERED, not fixed by the spec (U4). -/
opaque Config.openSelfPowered : Bool

/-- DESC_DEVICE, not fixed by the spec (U5). -/
opaque Config.openDescDevice : Option Descriptor

/-- DESC_CONFIGURATION, not fixed by the spec (U5). -/
opaque Config.openDescConfiguration : List (Byte × Descriptor)

/-- DESC_STRING, not fixed by the spec (U5). -/
opaque Config.openDescString : List (Byte × Descriptor)

/-- TBM_ADMIT at the unit reset, not fixed by the spec (U6). -/
opaque Config.openTbm : List Region

/-- PHY_ADD_OK, the PHY's answer to the n-th endpoint_add: a free value per draw (R8, U7; notes/assumptions/5.md). -/
opaque Config.phyAddOk : Nat → Bool

/-- The parameters of this device. -/
def Config.here : Config where
  mps0              := Config.openMps0
  selfPowered       := Config.openSelfPowered
  descDevice        := Config.openDescDevice
  descConfiguration := Config.openDescConfiguration
  descString        := Config.openDescString

end Sys2Proof
end

