-- ==== Sys2Proof/Syntax.lean ====
section
/-! DEFINITION. The operations and standard requests of spec/opcode_table.json, one constructor per row, and the
types of their operands. -/

namespace Sys2Proof

/-- The 8-byte setup packet in wire order (spec/30_encoding.md R67). Its fields are read in Decode.lean. -/
structure SetupPacket where
  b0 : Byte
  b1 : Byte
  b2 : Byte
  b3 : Byte
  b4 : Byte
  b5 : Byte
  b6 : Byte
  b7 : Byte
  deriving DecidableEq, Repr

/-- What a standard request carries beside its key K: the direction bit that the key's mask leaves out, and the three
16-bit fields (R67, R83). -/
structure RequestArgs where
  dirIn   : Bool
  wValue  : Half
  wIndex  : Half
  wLength : Half
  deriving DecidableEq, Repr

/-- `RequestResult` (R75): the class's answer, an operand of COMPLETE_REQUEST. -/
inductive RequestResult where
  | receive
  | send
  | success
  | failure
  | passThrough
  deriving DecidableEq, Repr

/-- `Context` (R75): the caller's context, the operand of ASSERT_LOCKED. -/
inductive Context where
  | thread
  | interrupt
  deriving DecidableEq, Repr

/-- Why the decoder refuses a record: the cases (a) to (f) of R80, in that order. -/
inductive BadRecord where
  | reservedOp
  | shortRecord
  | badBoolean
  | badContext
  | badFrame
  | badResult
  deriving DecidableEq, Repr

/-- One constructor per row of spec/opcode_table.json: the 27 operations (R79), then the 13 standard requests (R83). -/
inductive Instr where
  /-- EV_POWER (R135) -/
  | evPower (powered : Bool)
  /-- EV_SUSPEND (R136) -/
  | evSuspend (suspended : Bool)
  /-- EV_SOF (R137) -/
  | evSof (frame : BitVec 11)
  /-- EV_RESET (R134) -/
  | evReset
  /-- EV_EP0_SETUP (R97) -/
  | evEp0Setup (packet : SetupPacket)
  /-- EV_EP0_OUT (R99) -/
  | evEp0Out (data : List Byte)
  /-- EV_EP0_IN (R98) -/
  | evEp0In
  /-- EV_OUT (R129) -/
  | evOut (ep : Byte) (data : List Byte)
  /-- EV_IN (R130) -/
  | evIn (ep : Byte)
  /-- CONNECT (R140) -/
  | connect
  /-- EP_ADD (R122) -/
  | epAdd (ep : Byte) (maxPacket : Half) (type : Byte) (token : Word)
  /-- EP_REMOVE (R123) -/
  | epRemove (ep : Byte)
  /-- EP_STALL (R124) -/
  | epStall (ep : Byte)
  /-- EP_UNSTALL (R125) -/
  | epUnstall (ep : Byte)
  /-- READ_START (R126) -/
  | readStart (ep : Byte)
  /-- READ_FINISH (R127) -/
  | readFinish (ep : Byte) (buffer : Word) (maxSize : Word)
  /-- WRITE (R128) -/
  | write (ep : Byte) (buffer : Word) (size : Word)
  /-- SOF_ENABLE (R138) -/
  | sofEnable
  /-- SOF_DISABLE (R139) -/
  | sofDisable
  /-- COMPLETE_REQUEST (R103) -/
  | completeRequest (result : RequestResult) (data : Word) (size : Word)
  /-- COMPLETE_XFER_DONE (R104) -/
  | completeXferDone (success : Bool)
  /-- COMPLETE_SET_CONFIGURATION (R115) -/
  | completeSetConfiguration (success : Bool)
  /-- COMPLETE_SET_INTERFACE (R118) -/
  | completeSetInterface (success : Bool)
  /-- ABORT (R105) -/
  | abort
  /-- LOCK (R142) -/
  | lock
  /-- UNLOCK (R143) -/
  | unlock
  /-- ASSERT_LOCKED (R144) -/
  | assertLocked (context : Context)
  /-- GET_STATUS (Device) (R109) -/
  | getStatusDevice (req : RequestArgs)
  /-- GET_STATUS (Interface) (R109) -/
  | getStatusInterface (req : RequestArgs)
  /-- GET_STATUS (Endpoint) (R109) -/
  | getStatusEndpoint (req : RequestArgs)
  /-- CLEAR_FEATURE (Device) (R110) -/
  | clearFeatureDevice (req : RequestArgs)
  /-- CLEAR_FEATURE (Endpoint) (R110) -/
  | clearFeatureEndpoint (req : RequestArgs)
  /-- SET_FEATURE (Device) (R110) -/
  | setFeatureDevice (req : RequestArgs)
  /-- SET_FEATURE (Endpoint) (R110) -/
  | setFeatureEndpoint (req : RequestArgs)
  /-- SET_ADDRESS (R111) -/
  | setAddress (req : RequestArgs)
  /-- GET_DESCRIPTOR (R112) -/
  | getDescriptor (req : RequestArgs)
  /-- GET_CONFIGURATION (R113) -/
  | getConfiguration (req : RequestArgs)
  /-- SET_CONFIGURATION (R114) -/
  | setConfiguration (req : RequestArgs)
  /-- GET_INTERFACE (R116) -/
  | getInterface (req : RequestArgs)
  /-- SET_INTERFACE (R117) -/
  | setInterface (req : RequestArgs)
  deriving DecidableEq, Repr

end Sys2Proof
end

