-- ==== Sys2Proof/WellFormed.lean ====
section
/-! DEFINITION. Which instructions have an encoding. The operand types leave one thing to check: the data of formats FD
and FED has a 16-bit length field (spec/30_encoding.md R78). -/

namespace Sys2Proof

/-- The packet's length fits the 16-bit field `n` of formats FD and FED (R78). -/
def dataFits (data : List Byte) : Bool :=
  decide (data.length < 65536)

/-- Every operand has a place in the record. -/
def Instr.wellFormed : Instr → Bool
  | .evEp0Out data => dataFits data
  | .evOut _ data => dataFits data
  | .evPower _ | .evSuspend _ | .evSof _ | .evReset | .evEp0Setup _ | .evEp0In | .evIn _ => true
  | .connect | .epAdd _ _ _ _ | .epRemove _ | .epStall _ | .epUnstall _ | .readStart _ => true
  | .readFinish _ _ _ | .write _ _ _ | .sofEnable | .sofDisable => true
  | .completeRequest _ _ _ | .completeXferDone _ | .completeSetConfiguration _ => true
  | .completeSetInterface _ | .abort | .lock | .unlock | .assertLocked _ => true
  | .getStatusDevice _ | .getStatusInterface _ | .getStatusEndpoint _ => true
  | .clearFeatureDevice _ | .clearFeatureEndpoint _ => true
  | .setFeatureDevice _ | .setFeatureEndpoint _ | .setAddress _ | .getDescriptor _ => true
  | .getConfiguration _ | .setConfiguration _ | .getInterface _ | .setInterface _ => true

end Sys2Proof
end

