-- ==== Sys2Proof/Decode.lean ====
section
/-! DEFINITION. The two decoders of spec/30_encoding.md (operation records, R77 to R81; setup packets, R67 and R83), the
encoder written from the same tables, and the pseudo-operations of R86. -/

namespace Sys2Proof

/-! ### Bytes and words (R51, R77: little-endian) -/

/-- Byte `k` of a word, byte 0 the least significant. -/
def byteAt {w : Nat} (v : BitVec w) (k : Nat) : Byte :=
  v.extractLsb' (8 * k) 8

/-- The 16-bit field `{hi, lo}`. -/
def le16 (lo hi : Byte) : Half :=
  hi ++ lo

/-- A 32-bit operand from its four bytes, least significant first. -/
def le32 (x0 x1 x2 x3 : Byte) : Word :=
  (x3 ++ x2) ++ (x1 ++ x0)

/-- The bytes of a 16-bit operand in record order. -/
def bytes16 (v : Half) : List Byte :=
  [byteAt v 0, byteAt v 1]

/-- The bytes of a 32-bit operand in record order. -/
def bytes32 (v : Word) : List Byte :=
  [byteAt v 0, byteAt v 1, byteAt v 2, byteAt v 3]

/-! ### The setup packet (R67) -/

/-- The packet's bytes in wire order. -/
def SetupPacket.bytes (p : SetupPacket) : List Byte :=
  [p.b0, p.b1, p.b2, p.b3, p.b4, p.b5, p.b6, p.b7]

/-- The packet in the first eight bytes of a list. -/
def SetupPacket.ofBytes : List Byte → Option SetupPacket
  | x0 :: x1 :: x2 :: x3 :: x4 :: x5 :: x6 :: x7 :: _ => some ⟨x0, x1, x2, x3, x4, x5, x6, x7⟩
  | _ => none

/-- `dir_in`, b0[7]: the data stage runs device to host. -/
def SetupPacket.dirIn (p : SetupPacket) : Bool :=
  p.b0.getLsbD 7

/-- `rtype`, b0[6:5]: 0 Standard, 1 Class, 2 Vendor, 3 Reserved. -/
def SetupPacket.rtype (p : SetupPacket) : BitVec 2 :=
  p.b0.extractLsb' 5 2

/-- `recip`, b0[4:0]: 0 Device, 1 Interface, 2 Endpoint. -/
def SetupPacket.recip (p : SetupPacket) : BitVec 5 :=
  p.b0.extractLsb' 0 5

/-- `bRequest`, b1. -/
def SetupPacket.bRequest (p : SetupPacket) : Byte :=
  p.b1

/-- `wValue = {b3, b2}`. -/
def SetupPacket.wValue (p : SetupPacket) : Half :=
  le16 p.b2 p.b3

/-- `wIndex = {b5, b4}`. -/
def SetupPacket.wIndex (p : SetupPacket) : Half :=
  le16 p.b4 p.b5

/-- `wLength = {b7, b6}`. -/
def SetupPacket.wLength (p : SetupPacket) : Half :=
  le16 p.b6 p.b7

/-- The fields a standard request uses beside its key. -/
def SetupPacket.args (p : SetupPacket) : RequestArgs where
  dirIn   := p.dirIn
  wValue  := p.wValue
  wIndex  := p.wIndex
  wLength := p.wLength

/-- The dispatcher's key `K = {bRequest, bmRequestType} & 0xFF7F` (R83). -/
def SetupPacket.key (p : SetupPacket) : Half :=
  le16 p.b0 p.b1 &&& 0xFF7F#16

/-- The standard request a setup packet selects: the row of R83 whose match is K, and none where `rtype` is not Standard
or no row matches (R107). -/
def decodeRequest (p : SetupPacket) : Option Instr :=
  if p.rtype ≠ 0 then none
  else
    match p.key.toNat with
    | 0x0000 => some (.getStatusDevice p.args)
    | 0x0001 => some (.getStatusInterface p.args)
    | 0x0002 => some (.getStatusEndpoint p.args)
    | 0x0100 => some (.clearFeatureDevice p.args)
    | 0x0102 => some (.clearFeatureEndpoint p.args)
    | 0x0300 => some (.setFeatureDevice p.args)
    | 0x0302 => some (.setFeatureEndpoint p.args)
    | 0x0500 => some (.setAddress p.args)
    | 0x0600 => some (.getDescriptor p.args)
    | 0x0800 => some (.getConfiguration p.args)
    | 0x0900 => some (.setConfiguration p.args)
    | 0x0A01 => some (.getInterface p.args)
    | 0x0B01 => some (.setInterface p.args)
    | _ => none

/-! ### The operation record (R77 to R81)

Each reader below takes the bytes after the op byte. A record too short for its format is refused first (R80 (b)), then
the operand checks (c) to (f) apply (notes/assumptions/10.md); bytes past the format's length are no part of the record
(notes/assumptions/9.md). -/

/-- Format FB with a Boolean operand (R80 (c)). -/
def readBool (mk : Bool → Instr) : List Byte → Except BadRecord Instr
  | [] => .error .shortRecord
  | b :: _ =>
    match b.toNat with
    | 0 => .ok (mk false)
    | 1 => .ok (mk true)
    | _ => .error .badBoolean

/-- Format FB with a context operand (R80 (d)). -/
def readContext (mk : Context → Instr) : List Byte → Except BadRecord Instr
  | [] => .error .shortRecord
  | b :: _ =>
    match b.toNat with
    | 0 => .ok (mk .thread)
    | 1 => .ok (mk .interrupt)
    | _ => .error .badContext

/-- Format FF: an 11-bit frame number in a 16-bit field (R80 (e)). -/
def readFrame (mk : BitVec 11 → Instr) : List Byte → Except BadRecord Instr
  | f0 :: f1 :: _ =>
    if (le16 f0 f1).extractLsb' 11 5 ≠ 0 then .error .badFrame
    else .ok (mk ((le16 f0 f1).extractLsb' 0 11))
  | _ => .error .shortRecord

/-- Format FS: the eight setup bytes. -/
def readSetup (mk : SetupPacket → Instr) (bs : List Byte) : Except BadRecord Instr :=
  match SetupPacket.ofBytes bs with
  | some p => .ok (mk p)
  | none => .error .shortRecord

/-- The `n` data bytes of formats FD and FED, `n` the 16-bit field before them. -/
def readData (mk : List Byte → Instr) : List Byte → Except BadRecord Instr
  | n0 :: n1 :: d =>
    if d.length < (le16 n0 n1).toNat then .error .shortRecord
    else .ok (mk (d.take (le16 n0 n1).toNat))
  | _ => .error .shortRecord

/-- Format FE: an endpoint address, any u8. -/
def readEp (mk : Byte → Instr) : List Byte → Except BadRecord Instr
  | ep :: _ => .ok (mk ep)
  | [] => .error .shortRecord

/-- Format FED: an endpoint address, then data. -/
def readEpData (mk : Byte → List Byte → Instr) : List Byte → Except BadRecord Instr
  | ep :: rest => readData (mk ep) rest
  | [] => .error .shortRecord

/-- Format FA: the operands of EP_ADD. -/
def readAdd (mk : Byte → Half → Byte → Word → Instr) : List Byte → Except BadRecord Instr
  | ep :: m0 :: m1 :: t :: c0 :: c1 :: c2 :: c3 :: _ => .ok (mk ep (le16 m0 m1) t (le32 c0 c1 c2 c3))
  | _ => .error .shortRecord

/-- Format FM: an endpoint address, a buffer address and a size. -/
def readBuffer (mk : Byte → Word → Word → Instr) : List Byte → Except BadRecord Instr
  | ep :: a0 :: a1 :: a2 :: a3 :: x0 :: x1 :: x2 :: x3 :: _ =>
    .ok (mk ep (le32 a0 a1 a2 a3) (le32 x0 x1 x2 x3))
  | _ => .error .shortRecord

/-- The RequestResult of a code (R75, R80 (f)). -/
def resultOfCode (r : Byte) : Except BadRecord RequestResult :=
  match r.toNat with
  | 0 => .ok .receive
  | 1 => .ok .send
  | 2 => .ok .success
  | 3 => .ok .failure
  | 4 => .ok .passThrough
  | _ => .error .badResult

/-- Format FR: a RequestResult, a data address and a size. -/
def readAnswer (mk : RequestResult → Word → Word → Instr) : List Byte → Except BadRecord Instr
  | r :: a0 :: a1 :: a2 :: a3 :: x0 :: x1 :: x2 :: x3 :: _ =>
    match resultOfCode r with
    | .ok res => .ok (mk res (le32 a0 a1 a2 a3) (le32 x0 x1 x2 x3))
    | .error e => .error e
  | _ => .error .shortRecord

/-- The operation a record encodes (R79), or the reason it is refused (R80). -/
def decodeRecord : List Byte → Except BadRecord Instr
  | [] => .error .shortRecord
  | op :: rest =>
    match op.toNat with
    | 0x00 => readBool .evPower rest
    | 0x01 => readBool .evSuspend rest
    | 0x02 => readFrame .evSof rest
    | 0x03 => .ok .evReset
    | 0x04 => readSetup .evEp0Setup rest
    | 0x05 => readData .evEp0Out rest
    | 0x06 => .ok .evEp0In
    | 0x07 => readEpData .evOut rest
    | 0x08 => readEp .evIn rest
    | 0x10 => .ok .connect
    | 0x11 => readAdd .epAdd rest
    | 0x12 => readEp .epRemove rest
    | 0x13 => readEp .epStall rest
    | 0x14 => readEp .epUnstall rest
    | 0x15 => readEp .readStart rest
    | 0x16 => readBuffer .readFinish rest
    | 0x17 => readBuffer .write rest
    | 0x18 => .ok .sofEnable
    | 0x19 => .ok .sofDisable
    | 0x1A => readAnswer .completeRequest rest
    | 0x1B => readBool .completeXferDone rest
    | 0x1C => readBool .completeSetConfiguration rest
    | 0x1D => readBool .completeSetInterface rest
    | 0x1E => .ok .abort
    | 0x1F => .ok .lock
    | 0x20 => .ok .unlock
    | 0x21 => readContext .assertLocked rest
    | _ => .error .reservedOp

/-- An op byte of one of the nine PHY events (R79, R149). -/
def isEventOp (op : Byte) : Bool :=
  decide (op.toNat ≤ 0x08)

/-! ### The encoder -/

/-- The code of a Boolean operand. -/
def boolByte (b : Bool) : Byte :=
  if b then 1 else 0

/-- The code of a context operand (R75). -/
def contextByte : Context → Byte
  | .thread => 0
  | .interrupt => 1

/-- The code of a RequestResult operand (R75). -/
def resultByte : RequestResult → Byte
  | .receive => 0
  | .send => 1
  | .success => 2
  | .failure => 3
  | .passThrough => 4

/-- The setup packet of a standard request (`rtype` Standard): `b0 = {dir_in, 00, recip}` (R67). -/
def requestPacket (bRequest : Byte) (recip : BitVec 5) (r : RequestArgs) : SetupPacket where
  b0 := BitVec.ofBool r.dirIn ++ (0#2 ++ recip)
  b1 := bRequest
  b2 := byteAt r.wValue 0
  b3 := byteAt r.wValue 1
  b4 := byteAt r.wIndex 0
  b5 := byteAt r.wIndex 1
  b6 := byteAt r.wLength 0
  b7 := byteAt r.wLength 1

/-- The bytes of an instruction: the record of an operation (R78, R79), the setup packet of a standard request (R83). -/
def encode : Instr → List Byte
  | .evPower b => [0x00, boolByte b]
  | .evSuspend b => [0x01, boolByte b]
  | .evSof f => 0x02 :: bytes16 (f.setWidth 16)
  | .evReset => [0x03]
  | .evEp0Setup p => 0x04 :: p.bytes
  | .evEp0Out d => 0x05 :: (bytes16 (BitVec.ofNat 16 d.length) ++ d)
  | .evEp0In => [0x06]
  | .evOut ep d => 0x07 :: ep :: (bytes16 (BitVec.ofNat 16 d.length) ++ d)
  | .evIn ep => [0x08, ep]
  | .connect => [0x10]
  | .epAdd ep m t c => 0x11 :: ep :: (bytes16 m ++ t :: bytes32 c)
  | .epRemove ep => [0x12, ep]
  | .epStall ep => [0x13, ep]
  | .epUnstall ep => [0x14, ep]
  | .readStart ep => [0x15, ep]
  | .readFinish ep a x => 0x16 :: ep :: (bytes32 a ++ bytes32 x)
  | .write ep a x => 0x17 :: ep :: (bytes32 a ++ bytes32 x)
  | .sofEnable => [0x18]
  | .sofDisable => [0x19]
  | .completeRequest r a x => 0x1A :: resultByte r :: (bytes32 a ++ bytes32 x)
  | .completeXferDone b => [0x1B, boolByte b]
  | .completeSetConfiguration b => [0x1C, boolByte b]
  | .completeSetInterface b => [0x1D, boolByte b]
  | .abort => [0x1E]
  | .lock => [0x1F]
  | .unlock => [0x20]
  | .assertLocked k => [0x21, contextByte k]
  | .getStatusDevice r => (requestPacket 0x00 0 r).bytes
  | .getStatusInterface r => (requestPacket 0x00 1 r).bytes
  | .getStatusEndpoint r => (requestPacket 0x00 2 r).bytes
  | .clearFeatureDevice r => (requestPacket 0x01 0 r).bytes
  | .clearFeatureEndpoint r => (requestPacket 0x01 2 r).bytes
  | .setFeatureDevice r => (requestPacket 0x03 0 r).bytes
  | .setFeatureEndpoint r => (requestPacket 0x03 2 r).bytes
  | .setAddress r => (requestPacket 0x05 0 r).bytes
  | .getDescriptor r => (requestPacket 0x06 0 r).bytes
  | .getConfiguration r => (requestPacket 0x08 0 r).bytes
  | .setConfiguration r => (requestPacket 0x09 0 r).bytes
  | .getInterface r => (requestPacket 0x0A 1 r).bytes
  | .setInterface r => (requestPacket 0x0B 1 r).bytes

/-! ### The two kinds of word -/

/-- Which of EP0CTU's two decoders reads a word: an operation record or a setup packet (30_encoding.md, first lines). -/
inductive WordKind where
  | operation
  | request
  deriving DecidableEq, Repr

/-- The kind of word that encodes an instruction. -/
def Instr.kind : Instr → WordKind
  | .evPower _ | .evSuspend _ | .evSof _ | .evReset | .evEp0Setup _ | .evEp0Out _ | .evEp0In => .operation
  | .evOut _ _ | .evIn _ | .connect | .epAdd _ _ _ _ | .epRemove _ | .epStall _ | .epUnstall _ => .operation
  | .readStart _ | .readFinish _ _ _ | .write _ _ _ | .sofEnable | .sofDisable => .operation
  | .completeRequest _ _ _ | .completeXferDone _ | .completeSetConfiguration _ => .operation
  | .completeSetInterface _ | .abort | .lock | .unlock | .assertLocked _ => .operation
  | .getStatusDevice _ | .getStatusInterface _ | .getStatusEndpoint _ => .request
  | .clearFeatureDevice _ | .clearFeatureEndpoint _ | .setFeatureDevice _ => .request
  | .setFeatureEndpoint _ | .setAddress _ | .getDescriptor _ | .getConfiguration _ => .request
  | .setConfiguration _ | .getInterface _ | .setInterface _ => .request

/-- One of the nine PHY events (R149), which the guard masks (R141). -/
def Instr.isEvent : Instr → Bool
  | .evPower _ | .evSuspend _ | .evSof _ | .evReset | .evEp0Setup _ | .evEp0Out _ | .evEp0In => true
  | .evOut _ _ | .evIn _ => true
  | .connect | .epAdd _ _ _ _ | .epRemove _ | .epStall _ | .epUnstall _ | .readStart _ => false
  | .readFinish _ _ _ | .write _ _ _ | .sofEnable | .sofDisable => false
  | .completeRequest _ _ _ | .completeXferDone _ | .completeSetConfiguration _ => false
  | .completeSetInterface _ | .abort | .lock | .unlock | .assertLocked _ => false
  | .getStatusDevice _ | .getStatusInterface _ | .getStatusEndpoint _ => false
  | .clearFeatureDevice _ | .clearFeatureEndpoint _ | .setFeatureDevice _ => false
  | .setFeatureEndpoint _ | .setAddress _ | .getDescriptor _ | .getConfiguration _ => false
  | .setConfiguration _ | .getInterface _ | .setInterface _ => false

/-- Decode a word of either kind. -/
def decodeWord : WordKind → List Byte → Option Instr
  | .operation, bs =>
    match decodeRecord bs with
    | .ok i => some i
    | .error _ => none
  | .request, bs =>
    match SetupPacket.ofBytes bs with
    | some p => decodeRequest p
    | none => none

/-! ### The host's table words -/

/-- The kind of word the opcode table numbers with `nbits` bits: the op byte of a record has 8, the key of a setup packet
has 16 (30_encoding.md R79, R83). -/
def tableKind (nbits : Nat) : WordKind :=
  if nbits = 16 then .request else .operation

/-- The bytes of a table word, bit 0 the least significant bit of the first byte, followed by zero bytes up to the longest
record of a fixed length (10 bytes, R78). -/
def tableBytes (nbits w : Nat) : List Byte :=
  [0, 1, 2, 3, 4, 5, 6, 7, 8, 9].map fun k => BitVec.ofNat 8 ((w % 2 ^ nbits) >>> (8 * k))

/-- The instruction a word of spec/opcode_table.json encodes, its operand bytes zero. -/
def decodeTableWord (nbits w : Nat) : Option Instr :=
  decodeWord (tableKind nbits) (tableBytes nbits w)

/-! ### Pseudo-operations (R86) -/

/-- The pseudo-operations of R86. -/
inductive Pseudo where
  | setup (bm req : Byte) (wValue wIndex wLength : Half)
  | getDescriptor (type index : Byte) (wLength : Half)
  | setAddress (a : Half)
  | setConfiguration (c : Half)
  | getConfiguration
  | getStatusEp (ep : Byte)
  | setHalt (ep : Byte)
  | clearHalt (ep : Byte)
  | pass
  | statusOut
  deriving DecidableEq, Repr

/-- `SETUP bm, req, wValue, wIndex, wLength`. -/
def setupOp (bm req : Byte) (wValue wIndex wLength : Half) : Instr :=
  .evEp0Setup ⟨bm, req, byteAt wValue 0, byteAt wValue 1, byteAt wIndex 0, byteAt wIndex 1,
    byteAt wLength 0, byteAt wLength 1⟩

/-- The one operation a pseudo-operation stands for. -/
def Pseudo.expand : Pseudo → Instr
  | .setup bm req wValue wIndex wLength => setupOp bm req wValue wIndex wLength
  | .getDescriptor type index wLength => setupOp 0x80 0x06 (le16 index type) 0 wLength
  | .setAddress a => setupOp 0x00 0x05 a 0 0
  | .setConfiguration c => setupOp 0x00 0x09 c 0 0
  | .getConfiguration => setupOp 0x80 0x08 0 0 1
  | .getStatusEp ep => setupOp 0x82 0x00 0 (le16 ep 0) 2
  | .setHalt ep => setupOp 0x02 0x03 0 (le16 ep 0) 0
  | .clearHalt ep => setupOp 0x02 0x01 0 (le16 ep 0) 0
  | .pass => .completeRequest .passThrough 0 0
  | .statusOut => .evEp0Out []

end Sys2Proof
end

