-- ==== Sys2Proof/Machine/State.lean ====
section
/-! DEFINITION. The state of EP0CTU as plain data (spec/10_state.md R15 to R46), the outputs of a step (R82), the ways a
step can stop (R147, R80) and the state after a unit reset (R160). -/

namespace Sys2Proof.Machine

/-- The enumeration state of the device (R17). -/
inductive Lifecycle where
  | attached
  | powered
  | default
  | address
  | configured
  deriving DecidableEq, Repr

/-- The stage of the control transfer (R31). -/
inductive Stage where
  | setup
  | dataOut
  | dataIn
  | status
  deriving DecidableEq, Repr

/-- The direction of the response; `none` where no data stage was set up (R28). -/
inductive Dir where
  | none
  | receive
  | send
  deriving DecidableEq, Repr

/-- The completion command EP0CTU will accept next (R33). -/
inductive Awaiting where
  | none
  | request
  | xferDone
  | setConfiguration
  | setInterface
  deriving DecidableEq, Repr

/-- A buffer pointer: NULL, an address of the transfer-buffer memory, or an offset into ctx.REPLY (R26). -/
inductive BufPtr where
  | null
  | mem (a : Word)
  | reply (o : BitVec 2)
  deriving DecidableEq, Repr

/-- ctx.REPLY, the two bytes the dispatcher sends (R36). -/
structure Reply where
  b0 : Byte
  b1 : Byte
  deriving DecidableEq, Repr

/-- The causes of a STALL (R76, R145). Their codes are in Flags.lean. -/
inductive StallCause where
  | classFailure
  | reqUnsupported
  | reqState
  | reqTarget
  | descAbsent
  | resultMismatch
  | xferFailed
  | configFailed
  | interfaceFailed
  | unexpectedEvent
  | badOutPacket
  | explicitAbort
  deriving DecidableEq, Repr

/-- CTX, the control transfer context (R24). -/
structure Ctx where
  /-- SETUP (R25) -/
  setup         : SetupPacket
  /-- PTR (R26) -/
  ptr           : BufPtr
  /-- REMAINING (R27) -/
  remaining     : Word
  /-- DIRECTION (R28) -/
  direction     : Dir
  /-- ZLP (R29) -/
  zlp           : Bool
  /-- NOTIFY (R30) -/
  notify        : Bool
  /-- STAGE (R31) -/
  stage         : Stage
  /-- DEFERRED (R32) -/
  deferred      : Bool
  /-- AWAITING (R33) -/
  awaiting      : Awaiting
  /-- PEND_ADDR_VALID (R34) -/
  pendAddrValid : Bool
  /-- PEND_ADDR (R34) -/
  pendAddr      : BitVec 7
  /-- EP0_OUT_ARMED (R35) -/
  ep0OutArmed   : Bool
  /-- EP0_IN_BUSY (R35) -/
  ep0InBusy     : Bool
  /-- REPLY (R36) -/
  reply         : Reply
  deriving DecidableEq, Repr

/-- Every field of CTX at its reset value (R46). -/
def Ctx.reset : Ctx where
  setup         := ⟨0, 0, 0, 0, 0, 0, 0, 0⟩
  ptr           := .null
  remaining     := 0
  direction     := .none
  zlp           := false
  notify        := false
  stage         := .setup
  deferred      := false
  awaiting      := .none
  pendAddrValid := false
  pendAddr      := 0
  ep0OutArmed   := false
  ep0InBusy     := false
  reply         := ⟨0, 0⟩

/-- A record of the Endpoint Table (R38). -/
structure EpRecord where
  /-- VALID (R39) -/
  valid   : Bool
  /-- CB (R40) -/
  cb      : Word
  /-- MPS (R41) -/
  mps     : Half
  /-- FLAGS (R42): [1:0] TYPE, [2] STALLED, [7:3] zero -/
  flags   : Byte
  /-- PENDING (R43) -/
  pending : Byte
  /-- RX (R44) -/
  rx      : Option (List Byte)
  deriving DecidableEq, Repr

/-- An unregistered record: every field at its reset value (R39, R46). -/
def EpRecord.empty : EpRecord where
  valid   := false
  cb      := 0
  mps     := 0
  flags   := 0
  pending := 0
  rx      := none

/-- The outputs of a step (R82): commands to the PHY, then callbacks to the class. -/
inductive Output where
  /-- phy.connect -/
  | phyConnect
  /-- phy.ep0_read -/
  | ep0Read (max : Half)
  /-- phy.ep0_write -/
  | ep0Write (data : List Byte)
  /-- phy.ep0_stall -/
  | ep0Stall
  /-- phy.set_address -/
  | phySetAddress (a : BitVec 7)
  /-- phy.endpoint_add -/
  | endpointAdd (ep : Byte) (mps : Half) (type : BitVec 2)
  /-- phy.endpoint_remove -/
  | endpointRemove (ep : Byte)
  /-- phy.endpoint_stall -/
  | endpointStall (ep : Byte)
  /-- phy.endpoint_unstall -/
  | endpointUnstall (ep : Byte)
  /-- phy.endpoint_abort -/
  | endpointAbort (ep : Byte)
  /-- phy.endpoint_read -/
  | endpointRead (ep : Byte) (max : Half)
  /-- phy.endpoint_write -/
  | endpointWrite (ep : Byte) (data : List Byte)
  /-- phy.sof_enable -/
  | phySofEnable
  /-- phy.sof_disable -/
  | phySofDisable
  /-- cb.power -/
  | cbPower (b : Bool)
  /-- cb.sof -/
  | cbSof (frame : BitVec 11)
  /-- cb.reset -/
  | cbReset
  /-- cb.state_change -/
  | cbStateChange (lc : Lifecycle)
  /-- cb.request -/
  | cbRequest (setup : SetupPacket)
  /-- cb.request_xfer_done -/
  | cbRequestXferDone (setup : SetupPacket)
  /-- cb.set_configuration -/
  | cbSetConfiguration (cfg : Byte)
  /-- cb.set_interface -/
  | cbSetInterface (iface alt : Byte)
  /-- cb.endpoint -/
  | cbEndpoint (token : Word) (ep : Byte)
  deriving DecidableEq, Repr

/-- The return value of a command (R119). -/
inductive Ret where
  | bool (ok : Bool)
  /-- READ_FINISH's pair -/
  | sized (ok : Bool) (size : Word)
  deriving DecidableEq, Repr

/-- What the world outside does next: an agent issues an operation as a record (R6, R77), or the caller that owns the
transfer-buffer memory stores to it or changes which ranges exist (R59, R163; notes/assumptions/7.md). -/
inductive Input where
  | record (bytes : List Byte)
  | callerStore (a : Word) (data : List Byte)
  | callerLend (regions : List Region)
  deriving DecidableEq, Repr

/-- The transfer-buffer memory: its bytes that differ from what an unlisted byte reads as, by rising address. -/
abbrev Memory := List Host.Cell

/-- EP0CTU's state (R15), and beside it what the step function needs of the world around it. -/
structure State where
  /-- LC (R17) -/
  lc            : Lifecycle
  /-- ADDRESS (R18) -/
  address       : BitVec 7
  /-- CONFIGURATION (R19) -/
  configuration : Byte
  /-- INTERFACE (R20) -/
  iface         : Byte
  /-- ALTERNATE (R20) -/
  alternate     : Byte
  /-- REMOTE_WAKEUP (R21) -/
  remoteWakeup  : Bool
  /-- SUSPENDED (R22) -/
  suspended     : Bool
  /-- SOF_ENABLED (R23) -/
  sofEnabled    : Bool
  /-- CTX (R24) -/
  ctx           : Ctx
  /-- EP0_STALLED (R37) -/
  ep0Stalled    : Bool
  /-- STALL_CAUSE (R37) -/
  stallCause    : Byte
  /-- ET[0..29] (R38) -/
  et            : Vector EpRecord 30
  /-- LOCK_DEPTH (R45) -/
  lockDepth     : Word
  /-- The transfer-buffer memory (R48). -/
  mem           : Memory
  /-- TBM_ADMIT: what it admits, any predicate (R8, R48; notes/assumptions/4.md). -/
  tbm           : List Region
  /-- The other OPEN parameters (R8; notes/assumptions/3.md). -/
  cfg           : Config
  /-- What the agents have issued and no step has taken yet (R7, R141; notes/assumptions/1.md). -/
  inputs        : List Input
  /-- The PHY's answers to endpoint_add that are already known (R8; notes/assumptions/5.md). -/
  phyAnswers    : List Bool
  /-- The model's own: how many times PHY_ADD_OK was drawn (notes/assumptions/5.md). -/
  draws         : Nat
  /-- The model's own: the outputs of the last step, in order (R6, R82; notes/assumptions/2.md). -/
  out           : List Output
  /-- The model's own: the return value of the last step (R6, R119; notes/assumptions/2.md). -/
  ret           : Option Ret
  deriving DecidableEq, Repr

/-- The model faults of R147. Each stands for a breach of a caller's duty, for which the source gives no result; the step
has no effect. Each records the operation that raised it. All are SAFE: the machine stops where the source gives nothing. -/
inductive Fault where
  /-- BufferFault: raised by EV_EP0_IN and COMPLETE_REQUEST (SendNext), EV_EP0_OUT, WRITE and READ_FINISH on an access to
  transfer-buffer bytes that do not exist (R53, R54, R55). Safe. -/
  | bufferFault (op : Instr) (p : BufPtr) (n : Word)
  /-- GuardNotHeld: raised by ASSERT_LOCKED in thread context at depth 0 (R144). Safe. -/
  | guardNotHeld (op : Instr)
  /-- UnlockUnderflow: raised by UNLOCK at depth 0 (R143). Safe. -/
  | unlockUnderflow (op : Instr)
  /-- GuardOverflow: raised by LOCK at the largest depth (R142). Safe. -/
  | guardOverflow (op : Instr)
  deriving DecidableEq, Repr

/-- Why a step gives no meaning to its input. -/
inductive Refusal where
  /-- An instruction that has no meaning yet: raised by an arm of exec. Safe. No arm raises it. -/
  | notModelled (mnemonic : String)
  /-- The decoder refuses the record and no step happens: raised by step, with the reason (R80, R147). Safe. -/
  | badRecord (reason : BadRecord) (record : List Byte)
  deriving DecidableEq, Repr

/-- The unit reset (R46, R160): every field at the value of R46; the parameters at the constants of Config.lean; nothing
issued, nothing emitted. -/
def State.reset : State where
  lc            := .attached
  address       := 0
  configuration := 0
  iface         := 0
  alternate     := 0
  remoteWakeup  := false
  suspended     := false
  sofEnabled    := false
  ctx           := Ctx.reset
  ep0Stalled    := false
  stallCause    := 0
  et            := Vector.replicate 30 EpRecord.empty
  lockDepth     := 0
  mem           := []
  tbm           := Config.openTbm
  cfg           := Config.here
  inputs        := []
  phyAnswers    := []
  draws         := 0
  out           := []
  ret           := none

end Sys2Proof.Machine
end

