-- ==== Sys2Proof/Machine/Flags.lean ====
section
/-! DEFINITION. Codes and bits: the enumeration codes (spec/30_encoding.md R75), the STALL cause codes (R76), the
endpoint's FLAGS byte (R42), the GET_STATUS words (R72) and the zero-length-packet flag (R92). -/

namespace Sys2Proof.Machine

/-- Lifecycle codes (R75). -/
def Lifecycle.code : Lifecycle → BitVec 3
  | .attached => 0
  | .powered => 1
  | .default => 2
  | .address => 3
  | .configured => 4

/-- Stage codes (R75). -/
def Stage.code : Stage → BitVec 2
  | .setup => 0
  | .dataOut => 1
  | .dataIn => 2
  | .status => 3

/-- Dir codes (R75). -/
def Dir.code : Dir → BitVec 2
  | .none => 0
  | .receive => 1
  | .send => 2

/-- Awaiting codes (R75). -/
def Awaiting.code : Awaiting → BitVec 3
  | .none => 0
  | .request => 1
  | .xferDone => 2
  | .setConfiguration => 3
  | .setInterface => 4

/-- The cause code a STALL records (R76). -/
def StallCause.code : StallCause → Byte
  | .classFailure => 1
  | .reqUnsupported => 2
  | .reqState => 3
  | .reqTarget => 4
  | .descAbsent => 5
  | .resultMismatch => 6
  | .xferFailed => 7
  | .configFailed => 8
  | .interfaceFailed => 9
  | .unexpectedEvent => 10
  | .badOutPacket => 11
  | .explicitAbort => 12

/-- TYPE, FLAGS[1:0]: the endpoint's transfer type (R42, R74). -/
def flagsType (flags : Byte) : BitVec 2 :=
  flags.extractLsb' 0 2

/-- STALLED, FLAGS[2] (R42). -/
def flagsStalled (flags : Byte) : Bool :=
  flags.getLsbD 2

/-- `FLAGS[2] <- 1` (R120). -/
def flagsStall (flags : Byte) : Byte :=
  flags ||| 0x04#8

/-- `FLAGS[2] <- 0` (R121). -/
def flagsUnstall (flags : Byte) : Byte :=
  flags &&& 0xFB#8

/-- The type codes EP_ADD accepts: Isochronous, Bulk and Interrupt (R74). -/
def typeAccepted (type : Byte) : Bool :=
  type == 1 || type == 2 || type == 3

/-- The status word for recipient Device: bit 0 Self Powered, bit 1 Remote Wakeup (R72). -/
def deviceStatus (selfPowered remoteWakeup : Bool) : Half :=
  (if selfPowered then 1#16 else 0#16) ||| ((if remoteWakeup then 1#16 else 0#16) <<< 1)

/-- The status word for recipient Endpoint: bit 0 Halt (R72). -/
def endpointStatus (halt : Bool) : Half :=
  if halt then 1#16 else 0#16

/-- Whether an IN data stage of `total` bytes ends in a zero-length packet (R92): the total is a non-zero multiple of MPS0
and less than wLength. -/
def zlpNeeded (total wLength mps0 : Word) : Bool :=
  decide (0 < total) && total % mps0 == 0 && decide (total < wLength)

end Sys2Proof.Machine
end

