-- ==== Sys2Proof/Machine/Operands.lean ====
section
/-! DEFINITION. The operand forms: the value of MPS0 (spec/00_scope.md R8), endpoint addresses (spec/30_encoding.md R73),
buffer pointers (spec/20_memory.md R56), admitted ranges (R48) and the descriptor accessors (R69, R70, R112). -/

namespace Sys2Proof

/-- MPS0 in bytes, as a 32-bit count. -/
def Mps0.word : Mps0 → Word
  | .b8 => 8
  | .b16 => 16
  | .b32 => 32
  | .b64 => 64

/-- MPS0 in bytes, as the 16-bit operand of `phy.ep0_read` (R82). -/
def Mps0.half (m : Mps0) : Half :=
  m.word.setWidth 16

/-- The region admits the `n` bytes from `a`: they lie in its span, where the offset of `a` from the base, wrapping, leaves
room for them, or they are the very range it names. -/
def Region.covers (r : Region) (a n : Word) : Bool :=
  match r with
  | .span base size => decide ((a - base).toNat + n.toNat ≤ size)
  | .exactly addr m => a == addr && n == m

/-- The entry of an accessor's list at an index, none where the descriptor is absent (R8, R112). -/
def descriptorAt (index : Byte) : List (Byte × Descriptor) → Option Descriptor
  | [] => none
  | (k, d) :: rest => if k = index then some d else descriptorAt index rest

namespace Machine

/-- `validEp`: reserved bits zero and not endpoint 0 (R73). -/
def validEp (ep : Byte) : Bool :=
  ep.extractLsb' 4 3 == 0#3 && ep.extractLsb' 0 4 != 0#4

/-- `isIn`: bit 7 set, device to host (R73). -/
def isIn (ep : Byte) : Bool :=
  ep.getLsbD 7

/-- `idx(ep) = 2 * ep[3:0] + ep[7] - 2` (R73). -/
def epIndex (ep : Byte) : Nat :=
  2 * (ep.extractLsb' 0 4).toNat + (ep.extractLsb' 7 1).toNat - 2

/-- The Endpoint Table slot of a valid endpoint address, none for any other (R38, R73). -/
def epSlot (ep : Byte) : Option (Fin 30) :=
  if h : validEp ep ∧ epIndex ep < 30 then some ⟨epIndex ep, h.2⟩ else none

/-- The endpoint address in the low byte of wIndex (42_standard_requests.md, first lines). -/
def reqEp (r : RequestArgs) : Byte :=
  byteAt r.wIndex 0

/-- `p + n` for a buffer pointer (R56). A MEM pointer wraps modulo 2^32; NULL stays NULL. -/
def BufPtr.advance (p : BufPtr) (n : Word) : BufPtr :=
  match p with
  | .null => .null
  | .mem a => .mem (a + n)
  | .reply o => .reply (o + n.setWidth 2)

/-- `min(a, b)` on unsigned words (R11). -/
def minWord (a b : Word) : Word :=
  if a ≤ b then a else b

end Machine

end Sys2Proof
end

