-- ==== Sys2Proof/Machine/Ops.lean ====
section
/-! DEFINITION. The named operations over the state: the transfer-buffer memory (spec/20_memory.md), the Endpoint Table,
outputs and return values, the abort routines (the machine's exception entry, spec/60_exceptions.md R151) with what ends a
STALL (R152), ChangeState (spec/44_lifecycle.md R132), and how an operation's body becomes the outcome of a step. -/

namespace Sys2Proof.Machine

/-! ### Transfer-buffer memory -/

/-- What a byte nothing has written reads as. The spec gives no contents (DESIGN CHOICE, unsafe:
notes/assumptions/6.md). -/
def unlistedByte : Byte := 0

/-- The byte at an address. -/
def Memory.read : Memory → Nat → Byte
  | [], _ => unlistedByte
  | (k, v) :: rest, a => if k = a then v else Memory.read rest a

/-- Put a cell before a memory whose addresses are above it, leaving it out where it reads as an unlisted byte does. -/
def Memory.cons (a : Nat) (b : Byte) (m : Memory) : Memory :=
  if b = unlistedByte then m else (a, b) :: m

/-- Store one byte, keeping the canonical form. -/
def Memory.write : Memory → Nat → Byte → Memory
  | [], a, b => Memory.cons a b []
  | (k, v) :: rest, a, b =>
    if a < k then Memory.cons a b ((k, v) :: rest)
    else if a = k then Memory.cons a b rest
    else (k, v) :: Memory.write rest a b

/-- Every address is at least `low`, in the 32-bit space and above the one before it, and no cell holds what an unlisted
byte reads as. -/
def Memory.wfFrom : Nat → Memory → Bool
  | _, [] => true
  | low, (k, v) :: rest =>
    decide (low ≤ k) && decide (k < 2 ^ 32) && v != unlistedByte && Memory.wfFrom (k + 1) rest

/-- The canonical form: addresses strictly rising, no cell equal to what an unlisted address reads as. -/
def Memory.wf (m : Memory) : Bool :=
  Memory.wfFrom 0 m

/-- The `n` bytes from `a` up, addresses modulo 2^32 (R53). -/
def Memory.readBytes (m : Memory) (a : Word) : Nat → List Byte
  | 0 => []
  | n + 1 => Memory.read m a.toNat :: Memory.readBytes m (a + 1) n

/-- Store bytes from `a` up, addresses modulo 2^32 (R54). -/
def Memory.writeBytes (m : Memory) (a : Word) : List Byte → Memory
  | [] => m
  | b :: rest => Memory.writeBytes (Memory.write m a.toNat b) (a + 1) rest

/-- The byte of the transfer-buffer memory at an address. -/
def State.readByte (s : State) (a : Word) : Byte :=
  Memory.read s.mem a.toNat

/-- TBM_ADMIT(a, n): some region admits the bytes (R8, R48). -/
def State.admits (s : State) (a n : Word) : Bool :=
  s.tbm.any fun r => r.covers a n

/-- What a step that faults breached (R147), before the operation that raised it is recorded. -/
inductive Breach where
  | bufferFault (p : BufPtr) (n : Word)
  | guardNotHeld
  | unlockUnderflow
  | guardOverflow
  deriving DecidableEq, Repr

/-- MemRead (R53). -/
def memRead (a n : Word) (s : State) : Except Breach (List Byte) :=
  if n = 0 then .ok []
  else if s.admits a n then .ok (Memory.readBytes s.mem a n.toNat)
  else .error (.bufferFault (.mem a) n)

/-- MemWrite (R54) of the bytes `d`, `n = len(d)`. -/
def memWrite (a : Word) (d : List Byte) (s : State) : Except Breach State :=
  if d = [] then .ok s
  else if s.admits a (BitVec.ofNat 32 d.length) then .ok { s with mem := Memory.writeBytes s.mem a d }
  else .error (.bufferFault (.mem a) (BitVec.ofNat 32 d.length))

/-- BufRead (R55). A NULL or REPLY access out of its bounds is a BufferFault that records the pointer
(notes/assumptions/12.md). -/
def bufRead (p : BufPtr) (n : Word) (s : State) : Except Breach (List Byte) :=
  match p with
  | .mem a => memRead a n s
  | .reply o =>
    if o.toNat + n.toNat ≤ 2 then .ok (([s.ctx.reply.b0, s.ctx.reply.b1].drop o.toNat).take n.toNat)
    else .error (.bufferFault (.reply o) n)
  | .null => if n = 0 then .ok [] else .error (.bufferFault .null n)

/-- BufWrite (R55). -/
def bufWrite (p : BufPtr) (d : List Byte) (s : State) : Except Breach State :=
  match p with
  | .mem a => memWrite a d s
  | .reply o => .error (.bufferFault (.reply o) (BitVec.ofNat 32 d.length))
  | .null => .error (.bufferFault .null (BitVec.ofNat 32 d.length))

/-! ### Outputs and return values -/

/-- Every step starts with no output and no return value (R6). -/
def State.begin (s : State) : State :=
  { s with out := [], ret := none }

/-- `emit X` (R10). -/
def State.emit (s : State) (o : Output) : State :=
  { s with out := s.out ++ [o] }

/-- `return v` of a command with a Bool result (R119). -/
def State.answer (s : State) (ok : Bool) : State :=
  { s with ret := some (.bool ok) }

/-- READ_FINISH's `return (ok, size)` (R119). -/
def State.answerSized (s : State) (ok : Bool) (size : Word) : State :=
  { s with ret := some (.sized ok size) }

/-! ### The Endpoint Table -/

/-- `ET[i]`. -/
def State.ep (s : State) (i : Fin 30) : EpRecord :=
  s.et[i.val]

/-- `ET[i] <- r`. -/
def State.setEp (s : State) (i : Fin 30) (r : EpRecord) : State :=
  { s with et := s.et.set i.val r }

/-- `count(j : ET[j].VALID)` (R122). -/
def State.registered (s : State) : Nat :=
  (s.et.toList.filter (·.valid)).length

/-- A record whose transfer is forgotten: `PENDING <- 0; RX <- none` (R134). -/
def EpRecord.forget (r : EpRecord) : EpRecord :=
  { r with pending := 0, rx := none }

/-- The table with every transfer forgotten. -/
def forgetAll (et : Vector EpRecord 30) : Vector EpRecord 30 :=
  ⟨(et.toList.map EpRecord.forget).toArray, by simp⟩

/-- `for every i: ET[i].PENDING <- 0; ET[i].RX <- none` (R134). -/
def State.forgetTransfers (s : State) : State :=
  { s with et := forgetAll s.et }

/-! ### Aborts: taking a STALL, and what ends it -/

/-- ClearContext (R88): every field of CTX to its reset value. -/
def clearContext (s : State) : State :=
  { s with ctx := Ctx.reset }

/-- AbortSilent (R89): ClearContext and nothing else. -/
def abortSilent (s : State) : State :=
  clearContext s

/-- AbortStall (R90), the machine's exception entry (R151). -/
def abortStall (c : StallCause) (s : State) : State :=
  { clearContext s with ep0Stalled := true, stallCause := c.code }.emit .ep0Stall

/-- Endpoint 0 leaves its STALL state (R152): EV_EP0_SETUP and EV_RESET do this. STALL_CAUSE stays. -/
def leaveStall (s : State) : State :=
  { s with ep0Stalled := false }

/-! ### The lifecycle mutator -/

/-- ChangeState (R132), the single mutator of LC. -/
def changeState (new : Lifecycle) (s : State) : State :=
  if new = s.lc then s
  else if new = .configured then { s with lc := new }.emit (.cbStateChange new)
  else { s with lc := new, configuration := 0, iface := 0, alternate := 0 }.emit (.cbStateChange new)

/-! ### The PHY's answer to endpoint_add -/

/-- The draw PHY_ADD_OK of this EP_ADD step: the answer already known, or a free value (R8, R122;
notes/assumptions/5.md). -/
def phyAddOk (s : State) : Bool :=
  match s.phyAnswers with
  | ok :: _ => ok
  | [] => Config.phyAddOk s.draws

/-- The draw is used up. -/
def nextDraw (s : State) : State :=
  { s with phyAnswers := s.phyAnswers.tail, draws := s.draws + 1 }

/-! ### From an operation's body to a step's outcome -/

/-- The fault a breach is, with the operation that raised it (R147). -/
def Breach.raisedBy (op : Instr) : Breach → Fault
  | .bufferFault p n => .bufferFault op p n
  | .guardNotHeld => .guardNotHeld op
  | .unlockUnderflow => .unlockUnderflow op
  | .guardOverflow => .guardOverflow op

/-- An operation as one atomic step (R6): its body runs on a state with no output; a fault discards everything (R147). -/
def operation (op : Instr) (body : State → Except Breach State) (s : State) :
    Host.Outcome State Fault Refusal :=
  match body s.begin with
  | .ok t => .next t
  | .error b => .fault (b.raisedBy op)

/-- An operation whose body cannot fault. -/
def plainOperation (body : State → State) (s : State) : Host.Outcome State Fault Refusal :=
  .next (body s.begin)

end Sys2Proof.Machine
end

