-- ==== Sys2Proof/Machine/Endpoints.lean ====
section
/-! DEFINITION. The Endpoint Table and I/O operations (spec/43_endpoints.md). -/

namespace Sys2Proof.Machine

/-! ### Routines shared with the dispatcher -/

/-- StallEp (R120): a pending transfer is cancelled with no callback; RX is kept. -/
def stallEp (ep : Byte) (i : Fin 30) (s : State) : State :=
  let t := s.emit (.endpointStall ep)
  let u := if 0 < (s.ep i).pending then t.emit (.endpointAbort ep) else t
  u.setEp i { s.ep i with pending := 0, flags := flagsStall (s.ep i).flags }

/-- UnstallEp (R121): every unstall resets the data toggle, which is PHY state. -/
def unstallEp (ep : Byte) (i : Fin 30) (s : State) : State :=
  (s.emit (.endpointUnstall ep)).setEp i { s.ep i with flags := flagsUnstall (s.ep i).flags }

/-- The slot of a registered endpoint: `validEp(ep)` and `ET[i].VALID`. -/
def registeredSlot (ep : Byte) (s : State) : Option (Fin 30) :=
  match epSlot ep with
  | some i => if (s.ep i).valid then some i else none
  | none => none

/-- The slot of a registered IN endpoint. -/
def inSlot (ep : Byte) (s : State) : Option (Fin 30) :=
  if isIn ep then registeredSlot ep s else none

/-- The slot of a registered OUT endpoint. -/
def outSlot (ep : Byte) (s : State) : Option (Fin 30) :=
  if isIn ep then none else registeredSlot ep s

/-! ### Commands -/

/-- The body of EP_ADD (R122). The draw PHY_ADD_OK is used where the PHY is asked. -/
def addEndpoint (ep : Byte) (m : Half) (t : Byte) (c : Word) (s : State) : State :=
  match epSlot ep with
  | none => s.answer false
  | some i =>
    if typeAccepted t = false then s.answer false
    else if (s.ep i).valid then s.answer false
    else if 30 ≤ s.registered then s.answer false
    else
      let u := nextDraw (s.emit (.endpointAdd ep m (t.setWidth 2)))
      if phyAddOk s then
        (u.setEp i { valid := true, cb := c, mps := m, flags := t, pending := 0, rx := none }).answer true
      else u.answer false

/-- EP_ADD (R122). -/
def execEpAdd (ep : Byte) (maxPacket : Half) (type : Byte) (token : Word) (s : State) :
    Host.Outcome State Fault Refusal :=
  plainOperation (addEndpoint ep maxPacket type token) s

/-- The body of EP_REMOVE (R123). -/
def removeEndpoint (ep : Byte) (s : State) : State :=
  match registeredSlot ep s with
  | none => s.answer false
  | some i =>
    let t := if 0 < (s.ep i).pending then s.emit (.endpointAbort ep) else s
    ((t.emit (.endpointRemove ep)).setEp i EpRecord.empty).answer true

/-- EP_REMOVE (R123). -/
def execEpRemove (ep : Byte) (s : State) : Host.Outcome State Fault Refusal :=
  plainOperation (removeEndpoint ep) s

/-- EP_STALL (R124). -/
def execEpStall (ep : Byte) (s : State) : Host.Outcome State Fault Refusal :=
  plainOperation (fun t =>
    match registeredSlot ep t with
    | none => t.answer false
    | some i => (stallEp ep i t).answer true) s

/-- EP_UNSTALL (R125). -/
def execEpUnstall (ep : Byte) (s : State) : Host.Outcome State Fault Refusal :=
  plainOperation (fun t =>
    match registeredSlot ep t with
    | none => t.answer false
    | some i => (unstallEp ep i t).answer true) s

/-- The body of READ_START (R126). -/
def startRead (ep : Byte) (s : State) : State :=
  match outSlot ep s with
  | none => s.answer false
  | some i =>
    if flagsStalled (s.ep i).flags then s.answer false
    else if 0 < (s.ep i).pending then s.answer false
    else ((s.setEp i { s.ep i with pending := 1, rx := none }).emit (.endpointRead ep (s.ep i).mps)).answer true

/-- READ_START (R126). -/
def execReadStart (ep : Byte) (s : State) : Host.Outcome State Fault Refusal :=
  plainOperation (startRead ep) s

/-- The body of READ_FINISH (R127). -/
def finishRead (ep : Byte) (a x : Word) (s : State) : Except Breach State :=
  match outSlot ep s with
  | none => .ok (s.answerSized false 0)
  | some i =>
    if x < (s.ep i).mps.setWidth 32 then .ok (s.answerSized false 0)
    else if 0 < (s.ep i).pending then .ok (s.answerSized false 0)
    else
      match (s.ep i).rx with
      | none => .ok (s.answerSized false 0)
      | some d =>
        match memWrite a (d.take x.toNat) s with
        | .error b => .error b
        | .ok t =>
          .ok ((t.setEp i { t.ep i with rx := none }).answerSized true
            (BitVec.ofNat 32 (d.take x.toNat).length))

/-- READ_FINISH (R127). -/
def execReadFinish (ep : Byte) (buffer maxSize : Word) (s : State) : Host.Outcome State Fault Refusal :=
  operation (.readFinish ep buffer maxSize) (finishRead ep buffer maxSize) s

/-- The body of WRITE (R128). -/
def startWrite (ep : Byte) (a x : Word) (s : State) : Except Breach State :=
  match inSlot ep s with
  | none => .ok (s.answer false)
  | some i =>
    if (s.ep i).mps.setWidth 32 < x then .ok (s.answer false)
    else if flagsStalled (s.ep i).flags then .ok (s.answer false)
    else if 0 < (s.ep i).pending then .ok (s.answer false)
    else
      match memRead a x s with
      | .error b => .error b
      | .ok d =>
        .ok (((s.setEp i { s.ep i with pending := 1 }).emit (.endpointWrite ep d)).answer true)

/-- WRITE (R128). -/
def execWrite (ep : Byte) (buffer size : Word) (s : State) : Host.Outcome State Fault Refusal :=
  operation (.write ep buffer size) (startWrite ep buffer size) s

/-! ### Events -/

/-- The body of EV_OUT (R129): a packet armed by READ_START has arrived; any other event is dropped. -/
def packetArrived (ep : Byte) (d : List Byte) (s : State) : State :=
  match outSlot ep s with
  | none => s
  | some i =>
    if 0 < (s.ep i).pending then
      (s.setEp i { s.ep i with pending := 0, rx := some d }).emit (.cbEndpoint (s.ep i).cb ep)
    else s

/-- EV_OUT (R129). -/
def execEvOut (ep : Byte) (data : List Byte) (s : State) : Host.Outcome State Fault Refusal :=
  plainOperation (packetArrived ep data) s

/-- The body of EV_IN (R130): a packet started by WRITE has been sent; any other event is dropped. -/
def packetSent (ep : Byte) (s : State) : State :=
  match inSlot ep s with
  | none => s
  | some i =>
    if 0 < (s.ep i).pending then
      (s.setEp i { s.ep i with pending := 0 }).emit (.cbEndpoint (s.ep i).cb ep)
    else s

/-- EV_IN (R130). -/
def execEvIn (ep : Byte) (s : State) : Host.Outcome State Fault Refusal :=
  plainOperation (packetSent ep) s

end Sys2Proof.Machine
end

