-- ==== Sys2Proof/Machine/Transfer.lean ====
section
/-! DEFINITION. The Control Transfer Engine (spec/40_ep0_transfer.md): Respond, SendNext, the status-stage routines,
DataStageDone, StatusDone, and the endpoint-0 events EV_EP0_SETUP, EV_EP0_IN and EV_EP0_OUT. -/

namespace Sys2Proof.Machine

/-! ### Routines -/

/-- SendNext (R93): the next IN data packet of endpoint 0, its bytes read now. -/
def sendNext (s : State) : Except Breach State :=
  let n := minWord s.ctx.remaining s.cfg.mps0.word
  match bufRead s.ctx.ptr n s with
  | .error b => .error b
  | .ok d =>
    .ok ({ s with ctx := { s.ctx with
            ptr := s.ctx.ptr.advance n
            remaining := s.ctx.remaining - n
            ep0InBusy := true } }.emit (.ep0Write d))

/-- EnterStatusIn (R94): the device sends the zero-length status packet. -/
def enterStatusIn (s : State) : State :=
  { s with ctx := { s.ctx with stage := .status, ep0InBusy := true } }.emit (.ep0Write [])

/-- EnterStatusOut (R94): the device waits for the host's zero-length status packet. -/
def enterStatusOut (s : State) : State :=
  { s with ctx := { s.ctx with stage := .status, ep0OutArmed := true } }.emit (.ep0Read 0)

/-- StatusStart (R94): the status stage runs opposite to the data stage. -/
def statusStart (s : State) : State :=
  if s.ctx.direction = .send then enterStatusOut s else enterStatusIn s

/-- DataStageDone (R95). -/
def dataStageDone (s : State) : State :=
  if s.ctx.notify then
    { s with ctx := { s.ctx with awaiting := .xferDone } }.emit (.cbRequestXferDone s.ctx.setup)
  else statusStart s

/-- StatusDone (R96): the transfer ends, and a latched address is applied. -/
def statusDone (s : State) : State :=
  let t := clearContext s
  if s.ctx.pendAddrValid then
    changeState (if s.ctx.pendAddr ≠ 0 then .address else .default)
      ({ t with address := s.ctx.pendAddr }.emit (.phySetAddress s.ctx.pendAddr))
  else t

/-- Respond with result Success (R91). -/
def respondSuccess (wLength : Half) (notify : Bool) (s : State) : State :=
  if wLength ≠ 0 then abortStall .resultMismatch s
  else enterStatusIn { s with ctx := { s.ctx with notify := notify, direction := .none } }

/-- Respond with result Send (R91): an IN data stage of at most wLength bytes. -/
def respondSend (dirIn : Bool) (wLength : Half) (p : BufPtr) (size : Word) (notify : Bool) (s : State) :
    Except Breach State :=
  if wLength = 0 ∨ dirIn = false then .ok (abortStall .resultMismatch s)
  else
    let total := minWord size (wLength.setWidth 32)
    sendNext { s with ctx := { s.ctx with
      ptr := p
      remaining := total
      direction := .send
      notify := notify
      zlp := zlpNeeded total (wLength.setWidth 32) s.cfg.mps0.word
      stage := .dataIn } }

/-- Respond with result Receive (R91): an OUT data stage of wLength bytes. -/
def respondReceive (dirIn : Bool) (wLength : Half) (p : BufPtr) (size : Word) (notify : Bool) (s : State) :
    State :=
  if wLength = 0 ∨ dirIn = true then abortStall .resultMismatch s
  else if size < wLength.setWidth 32 then abortStall .resultMismatch s
  else
    { s with ctx := { s.ctx with
        ptr := p
        remaining := wLength.setWidth 32
        direction := .receive
        notify := notify
        stage := .dataOut
        ep0OutArmed := true } }.emit (.ep0Read s.cfg.mps0.half)

/-! ### EV_EP0_SETUP (R97) -/

/-- The body of EV_EP0_SETUP: the newest setup packet wins, and goes to the class first. -/
def newSetup (p : SetupPacket) (s : State) : State :=
  let t := leaveStall (abortSilent s)
  { t with ctx := { t.ctx with
      setup := p
      stage := .setup
      deferred := true
      awaiting := .request } }.emit (.cbRequest p)

/-- EV_EP0_SETUP (R97). -/
def execEvEp0Setup (packet : SetupPacket) (s : State) : Host.Outcome State Fault Refusal :=
  plainOperation (newSetup packet) s

/-! ### EV_EP0_IN (R98) -/

/-- The body of EV_EP0_IN: the packet handed to the PHY has been sent. -/
def inPacketSent (s : State) : Except Breach State :=
  if s.ctx.ep0InBusy = false then .ok (abortStall .unexpectedEvent s)
  else
    let t := { s with ctx := { s.ctx with ep0InBusy := false } }
    match s.ctx.stage with
    | .dataIn =>
      if 0 < s.ctx.remaining then sendNext t
      else if s.ctx.zlp then
        .ok ({ t with ctx := { t.ctx with zlp := false, ep0InBusy := true } }.emit (.ep0Write []))
      else .ok (dataStageDone t)
    | .status => .ok (statusDone t)
    | .setup | .dataOut => .ok (abortStall .unexpectedEvent t)

/-- EV_EP0_IN (R98). -/
def execEvEp0In (s : State) : Host.Outcome State Fault Refusal :=
  operation .evEp0In inPacketSent s

/-! ### EV_EP0_OUT (R99) -/

/-- An OUT data packet of `n` bytes that does not fit the data stage: longer than MPS0 or than the bytes still expected,
or short before the last of them (R99). -/
def badDataPacket (n : Nat) (s : State) : Bool :=
  decide (s.cfg.mps0.word.toNat < n) || decide (s.ctx.remaining.toNat < n) ||
    (decide (n < s.cfg.mps0.word.toNat) && decide (n < s.ctx.remaining.toNat))

/-- A well-formed OUT data packet: its bytes go to the buffer, and the stage goes on or ends (R99). -/
def takeDataPacket (d : List Byte) (s : State) : Except Breach State :=
  match bufWrite s.ctx.ptr d s with
  | .error b => .error b
  | .ok t =>
    let n := BitVec.ofNat 32 d.length
    let u := { t with ctx := { t.ctx with ptr := t.ctx.ptr.advance n, remaining := t.ctx.remaining - n } }
    if u.ctx.remaining = 0 then .ok (dataStageDone u)
    else .ok ({ u with ctx := { u.ctx with ep0OutArmed := true } }.emit (.ep0Read u.cfg.mps0.half))

/-- The body of EV_EP0_OUT: one OUT packet has arrived on endpoint 0. -/
def outPacketReceived (d : List Byte) (s : State) : Except Breach State :=
  if s.ctx.ep0OutArmed = false then .ok (abortStall .unexpectedEvent s)
  else
    let t := { s with ctx := { s.ctx with ep0OutArmed := false } }
    match s.ctx.stage with
    | .dataOut =>
      if badDataPacket d.length t then .ok (abortStall .badOutPacket t) else takeDataPacket d t
    | .status => if d ≠ [] then .ok (abortStall .badOutPacket t) else .ok (statusDone t)
    | .setup | .dataIn => .ok (abortStall .unexpectedEvent t)

/-- EV_EP0_OUT (R99). -/
def execEvEp0Out (data : List Byte) (s : State) : Host.Outcome State Fault Refusal :=
  operation (.evEp0Out data) (outPacketReceived data) s

end Sys2Proof.Machine
end

