-- ==== Sys2Proof/Machine/Requests.lean ====
section
/-! DEFINITION. The Standard Request Dispatcher (spec/42_standard_requests.md): the handlers of the nine standard requests,
one meaning per row of the request map (R83), StdDispatch, and the two completions that belong to it. The dispatcher's own
answers use Respond with notify = false. -/

namespace Sys2Proof.Machine

/-- `st.LC in {Address, Configured}`. -/
def addressed (s : State) : Bool :=
  s.lc == .address || s.lc == .configured

/-! ### GET_STATUS (R109) -/

/-- `ctx.REPLY <- [v[7:0], v[15:8]]; Respond(Send, REPLY(0), 2, false)`. -/
def replyStatus (v : Half) (r : RequestArgs) (s : State) : Except Breach State :=
  respondSend r.dirIn r.wLength (.reply 0) 2 false
    { s with ctx := { s.ctx with reply := ⟨byteAt v 0, byteAt v 1⟩ } }

/-- The handler of GET_STATUS, recipient Device. -/
def statusOfDevice (r : RequestArgs) (s : State) : Except Breach State :=
  if addressed s = false then .ok (abortStall .reqState s)
  else replyStatus (deviceStatus s.cfg.selfPowered s.remoteWakeup) r s

/-- GET_STATUS, recipient Device (R109). -/
def execGetStatusDevice (req : RequestArgs) (s : State) : Host.Outcome State Fault Refusal :=
  operation (.getStatusDevice req) (statusOfDevice req) s

/-- The handler of GET_STATUS, recipient Interface. -/
def statusOfInterface (r : RequestArgs) (s : State) : Except Breach State :=
  if addressed s = false then .ok (abortStall .reqState s)
  else if s.lc ≠ .configured then .ok (abortStall .reqState s)
  else replyStatus 0 r s

/-- GET_STATUS, recipient Interface (R109). -/
def execGetStatusInterface (req : RequestArgs) (s : State) : Host.Outcome State Fault Refusal :=
  operation (.getStatusInterface req) (statusOfInterface req) s

/-- The handler of GET_STATUS, recipient Endpoint. -/
def statusOfEndpoint (r : RequestArgs) (s : State) : Except Breach State :=
  if addressed s = false then .ok (abortStall .reqState s)
  else if byteAt r.wIndex 1 ≠ 0 ∨ (reqEp r).extractLsb' 4 3 ≠ 0#3 then .ok (abortStall .reqTarget s)
  else if (reqEp r).extractLsb' 0 4 = 0#4 then replyStatus 0 r s
  else if s.lc ≠ .configured then .ok (abortStall .reqState s)
  else
    match registeredSlot (reqEp r) s with
    | none => .ok (abortStall .reqTarget s)
    | some i => replyStatus (endpointStatus (flagsStalled (s.ep i).flags)) r s

/-- GET_STATUS, recipient Endpoint (R109). -/
def execGetStatusEndpoint (req : RequestArgs) (s : State) : Host.Outcome State Fault Refusal :=
  operation (.getStatusEndpoint req) (statusOfEndpoint req) s

/-! ### CLEAR_FEATURE and SET_FEATURE (R110) -/

/-- SET_FEATURE (`set`) and CLEAR_FEATURE for recipient Device: DEVICE_REMOTE_WAKEUP only. -/
def featureOfDevice (set : Bool) (r : RequestArgs) (s : State) : State :=
  if addressed s = false then abortStall .reqState s
  else if r.wValue ≠ 1 then abortStall .reqUnsupported s
  else if r.wLength ≠ 0 then abortStall .resultMismatch s
  else respondSuccess r.wLength false { s with remoteWakeup := set }

/-- SET_FEATURE (`set`) and CLEAR_FEATURE for recipient Endpoint: ENDPOINT_HALT only. -/
def featureOfEndpoint (set : Bool) (r : RequestArgs) (s : State) : State :=
  if addressed s = false then abortStall .reqState s
  else if r.wValue ≠ 0 then abortStall .reqUnsupported s
  else if byteAt r.wIndex 1 ≠ 0 ∨ validEp (reqEp r) = false then abortStall .reqTarget s
  else if s.lc ≠ .configured then abortStall .reqState s
  else
    match registeredSlot (reqEp r) s with
    | none => abortStall .reqTarget s
    | some i =>
      if r.wLength ≠ 0 then abortStall .resultMismatch s
      else respondSuccess r.wLength false (if set then stallEp (reqEp r) i s else unstallEp (reqEp r) i s)

/-- CLEAR_FEATURE, recipient Device (R110). -/
def execClearFeatureDevice (req : RequestArgs) (s : State) : Host.Outcome State Fault Refusal :=
  plainOperation (featureOfDevice false req) s

/-- CLEAR_FEATURE, recipient Endpoint (R110). -/
def execClearFeatureEndpoint (req : RequestArgs) (s : State) : Host.Outcome State Fault Refusal :=
  plainOperation (featureOfEndpoint false req) s

/-- SET_FEATURE, recipient Device (R110). -/
def execSetFeatureDevice (req : RequestArgs) (s : State) : Host.Outcome State Fault Refusal :=
  plainOperation (featureOfDevice true req) s

/-- SET_FEATURE, recipient Endpoint (R110). -/
def execSetFeatureEndpoint (req : RequestArgs) (s : State) : Host.Outcome State Fault Refusal :=
  plainOperation (featureOfEndpoint true req) s

/-! ### SET_ADDRESS (R111) -/

/-- The handler of SET_ADDRESS: the address is latched; StatusDone applies it. -/
def latchAddress (r : RequestArgs) (s : State) : State :=
  if s.lc ≠ .default ∧ s.lc ≠ .address then abortStall .reqState s
  else if 127 < r.wValue then abortStall .reqTarget s
  else if r.wLength ≠ 0 then abortStall .resultMismatch s
  else
    respondSuccess r.wLength false
      { s with ctx := { s.ctx with pendAddrValid := true, pendAddr := r.wValue.setWidth 7 } }

/-- SET_ADDRESS (R111). -/
def execSetAddress (req : RequestArgs) (s : State) : Host.Outcome State Fault Refusal :=
  plainOperation (latchAddress req) s

/-! ### GET_DESCRIPTOR (R112) -/

/-- `Respond(Send, MEM(a), L, false)` of the descriptor an accessor returned, or STALL DESC_ABSENT. -/
def sendDescriptor (d : Option Descriptor) (r : RequestArgs) (s : State) : Except Breach State :=
  match d with
  | none => .ok (abortStall .descAbsent s)
  | some d => respondSend r.dirIn r.wLength (.mem d.addr) d.len false s

/-- The handler of GET_DESCRIPTOR: `wValue = {type, index}` (R69); string kinds 0 to 5 (R70). -/
def describe (r : RequestArgs) (s : State) : Except Breach State :=
  match (byteAt r.wValue 1).toNat with
  | 1 => sendDescriptor s.cfg.descDevice r s
  | 2 => sendDescriptor (descriptorAt (byteAt r.wValue 0) s.cfg.descConfiguration) r s
  | 3 =>
    if 5 < byteAt r.wValue 0 then .ok (abortStall .reqUnsupported s)
    else sendDescriptor (descriptorAt (byteAt r.wValue 0) s.cfg.descString) r s
  | _ => .ok (abortStall .reqUnsupported s)

/-- GET_DESCRIPTOR (R112). -/
def execGetDescriptor (req : RequestArgs) (s : State) : Host.Outcome State Fault Refusal :=
  operation (.getDescriptor req) (describe req) s

/-! ### GET_CONFIGURATION (R113) and SET_CONFIGURATION (R114) -/

/-- `ctx.REPLY <- [v, 0x00]; Respond(Send, REPLY(0), 1, false)`. -/
def replyByte (v : Byte) (r : RequestArgs) (s : State) : Except Breach State :=
  respondSend r.dirIn r.wLength (.reply 0) 1 false { s with ctx := { s.ctx with reply := ⟨v, 0⟩ } }

/-- The handler of GET_CONFIGURATION. -/
def tellConfiguration (r : RequestArgs) (s : State) : Except Breach State :=
  if addressed s = false then .ok (abortStall .reqState s) else replyByte s.configuration r s

/-- GET_CONFIGURATION (R113). -/
def execGetConfiguration (req : RequestArgs) (s : State) : Host.Outcome State Fault Refusal :=
  operation (.getConfiguration req) (tellConfiguration req) s

/-- The handler of SET_CONFIGURATION: the change is handed to the class. -/
def askConfiguration (r : RequestArgs) (s : State) : State :=
  if addressed s = false then abortStall .reqState s
  else if r.wLength ≠ 0 then abortStall .resultMismatch s
  else
    { s with ctx := { s.ctx with awaiting := .setConfiguration } }.emit
      (.cbSetConfiguration (byteAt r.wValue 0))

/-- SET_CONFIGURATION (R114). -/
def execSetConfiguration (req : RequestArgs) (s : State) : Host.Outcome State Fault Refusal :=
  plainOperation (askConfiguration req) s

/-! ### GET_INTERFACE (R116) and SET_INTERFACE (R117) -/

/-- The handler of GET_INTERFACE. -/
def tellInterface (r : RequestArgs) (s : State) : Except Breach State :=
  if s.lc ≠ .configured then .ok (abortStall .reqState s) else replyByte s.alternate r s

/-- GET_INTERFACE (R116). -/
def execGetInterface (req : RequestArgs) (s : State) : Host.Outcome State Fault Refusal :=
  operation (.getInterface req) (tellInterface req) s

/-- The handler of SET_INTERFACE: the change is handed to the class. -/
def askInterface (r : RequestArgs) (s : State) : State :=
  if s.lc ≠ .configured then abortStall .reqState s
  else if r.wLength ≠ 0 then abortStall .resultMismatch s
  else
    { s with ctx := { s.ctx with awaiting := .setInterface } }.emit
      (.cbSetInterface (byteAt r.wIndex 0) (byteAt r.wValue 0))

/-- SET_INTERFACE (R117). -/
def execSetInterface (req : RequestArgs) (s : State) : Host.Outcome State Fault Refusal :=
  plainOperation (askInterface req) s

/-! ### StdDispatch (R107) -/

/-- The handler a decoded request selects. A record's operation is no request and selects none. -/
def handler : Instr → State → Except Breach State
  | .getStatusDevice r, s => statusOfDevice r s
  | .getStatusInterface r, s => statusOfInterface r s
  | .getStatusEndpoint r, s => statusOfEndpoint r s
  | .clearFeatureDevice r, s => .ok (featureOfDevice false r s)
  | .clearFeatureEndpoint r, s => .ok (featureOfEndpoint false r s)
  | .setFeatureDevice r, s => .ok (featureOfDevice true r s)
  | .setFeatureEndpoint r, s => .ok (featureOfEndpoint true r s)
  | .setAddress r, s => .ok (latchAddress r s)
  | .getDescriptor r, s => describe r s
  | .getConfiguration r, s => tellConfiguration r s
  | .setConfiguration r, s => .ok (askConfiguration r s)
  | .getInterface r, s => tellInterface r s
  | .setInterface r, s => .ok (askInterface r s)
  | .evPower _, s | .evSuspend _, s | .evSof _, s | .evReset, s | .evEp0Setup _, s | .evEp0Out _, s
  | .evEp0In, s | .evOut _ _, s | .evIn _, s | .connect, s | .epAdd _ _ _ _, s | .epRemove _, s
  | .epStall _, s | .epUnstall _, s | .readStart _, s | .readFinish _ _ _, s | .write _ _ _, s
  | .sofEnable, s | .sofDisable, s | .completeRequest _ _ _, s | .completeXferDone _, s
  | .completeSetConfiguration _, s | .completeSetInterface _, s | .abort, s | .lock, s | .unlock, s
  | .assertLocked _, s => .ok (abortStall .reqUnsupported s)

/-- StdDispatch (R107): run the handler the setup packet in CTX selects, or STALL. -/
def stdDispatch (s : State) : Except Breach State :=
  match decodeRequest s.ctx.setup with
  | some i => handler i s
  | none => .ok (abortStall .reqUnsupported s)

/-! ### COMPLETE_SET_CONFIGURATION (R115) and COMPLETE_SET_INTERFACE (R118) -/

/-- The state with `ctx.AWAITING <- None`. -/
def State.answered (s : State) : State :=
  { s with ctx := { s.ctx with awaiting := .none } }

/-- The body of COMPLETE_SET_CONFIGURATION (R115). -/
def configurationSet (success : Bool) (s : State) : State :=
  if s.ctx.awaiting ≠ .setConfiguration then s
  else if success = false then abortStall .configFailed s.answered
  else
    let c := byteAt s.ctx.setup.wValue 0
    let t := { s.answered with iface := 0, alternate := 0 }
    respondSuccess s.ctx.setup.wLength false
      (if c ≠ 0 then changeState .configured { t with configuration := c } else changeState .address t)

/-- COMPLETE_SET_CONFIGURATION (R115). -/
def execCompleteSetConfiguration (success : Bool) (s : State) : Host.Outcome State Fault Refusal :=
  plainOperation (configurationSet success) s

/-- The body of COMPLETE_SET_INTERFACE (R118). -/
def interfaceSet (success : Bool) (s : State) : State :=
  if s.ctx.awaiting ≠ .setInterface then s
  else if success = false then abortStall .interfaceFailed s.answered
  else
    respondSuccess s.ctx.setup.wLength false
      { s.answered with iface := byteAt s.ctx.setup.wIndex 0, alternate := byteAt s.ctx.setup.wValue 0 }

/-- COMPLETE_SET_INTERFACE (R118). -/
def execCompleteSetInterface (success : Bool) (s : State) : Host.Outcome State Fault Refusal :=
  plainOperation (interfaceSet success) s

end Sys2Proof.Machine
end

