-- ==== Sys2Proof/Machine/Completion.lean ====
section
/-! DEFINITION. The class's answers and the explicit abort (spec/41_ep0_completion.md). A completion of another kind than
the one awaited is ignored (R102). -/

namespace Sys2Proof.Machine

/-- The body of COMPLETE_REQUEST (R103). -/
def requestAnswered (result : RequestResult) (a x : Word) (s : State) : Except Breach State :=
  if s.ctx.awaiting ≠ .request then .ok s
  else
    let t := s.answered
    let q := s.ctx.setup
    match result with
    | .passThrough => stdDispatch { t with ctx := { t.ctx with deferred := false } }
    | .failure => .ok (abortStall .classFailure t)
    | .receive => .ok (respondReceive q.dirIn q.wLength (.mem a) x true t)
    | .send => respondSend q.dirIn q.wLength (.mem a) x true t
    | .success => .ok (respondSuccess q.wLength true t)

/-- COMPLETE_REQUEST (R103). -/
def execCompleteRequest (result : RequestResult) (data size : Word) (s : State) :
    Host.Outcome State Fault Refusal :=
  operation (.completeRequest result data size) (requestAnswered result data size) s

/-- The body of COMPLETE_XFER_DONE (R104). -/
def transferAnswered (success : Bool) (s : State) : State :=
  if s.ctx.awaiting ≠ .xferDone then s
  else if success = false then abortStall .xferFailed s.answered
  else statusStart s.answered

/-- COMPLETE_XFER_DONE (R104). -/
def execCompleteXferDone (success : Bool) (s : State) : Host.Outcome State Fault Refusal :=
  plainOperation (transferAnswered success) s

/-- The body of ABORT (R105): no effect while no transfer is in progress. -/
def explicitAbort (s : State) : State :=
  if s.ctx.stage = .setup ∧ s.ctx.awaiting = .none then s else abortStall .explicitAbort s

/-- ABORT (R105). -/
def execAbort (s : State) : Host.Outcome State Fault Refusal :=
  plainOperation explicitAbort s

end Sys2Proof.Machine
end

