-- ==== Sys2Proof/Machine/Guard.lean ====
section
/-! DEFINITION. The Concurrency Guard's commands (spec/45_guard.md). That the PHY's events wait while the guard is held
(R141) is in Fetch.lean. -/

namespace Sys2Proof.Machine

/-- The body of LOCK (R142). -/
def acquire (s : State) : Except Breach State :=
  if s.lockDepth = BitVec.allOnes 32 then .error .guardOverflow
  else .ok { s with lockDepth := s.lockDepth + 1 }

/-- LOCK (R142). -/
def execLock (s : State) : Host.Outcome State Fault Refusal :=
  operation .lock acquire s

/-- The body of UNLOCK (R143). -/
def release (s : State) : Except Breach State :=
  if s.lockDepth = 0 then .error .unlockUnderflow
  else .ok { s with lockDepth := s.lockDepth - 1 }

/-- UNLOCK (R143). -/
def execUnlock (s : State) : Host.Outcome State Fault Refusal :=
  operation .unlock release s

/-- The body of ASSERT_LOCKED (R144): a check with no effect. -/
def assertHeld (k : Context) (s : State) : Except Breach State :=
  if k = .thread ∧ s.lockDepth = 0 then .error .guardNotHeld else .ok s

/-- ASSERT_LOCKED (R144). -/
def execAssertLocked (context : Context) (s : State) : Host.Outcome State Fault Refusal :=
  operation (.assertLocked context) (assertHeld context) s

end Sys2Proof.Machine
end

