-- ==== Sys2Proof/Machine/Lifecycle.lean ====
section
/-! DEFINITION. Bus, power and frame events and the thread commands beside them (spec/44_lifecycle.md). -/

namespace Sys2Proof.Machine

/-- EV_POWER (R135): passed through to the class. -/
def execEvPower (powered : Bool) (s : State) : Host.Outcome State Fault Refusal :=
  plainOperation (fun t => t.emit (.cbPower powered)) s

/-- EV_SUSPEND (R136): recorded. -/
def execEvSuspend (suspended : Bool) (s : State) : Host.Outcome State Fault Refusal :=
  plainOperation (fun t => { t with suspended := suspended }) s

/-- EV_SOF (R137): passed through while SOF_ENABLED. -/
def execEvSof (frame : BitVec 11) (s : State) : Host.Outcome State Fault Refusal :=
  plainOperation (fun t => if t.sofEnabled then t.emit (.cbSof frame) else t) s

/-- The body of EV_RESET, the bus reset (R134). -/
def busReset (s : State) : State :=
  let t := (leaveStall (abortSilent s)).forgetTransfers
  changeState .default ({ t with address := 0, suspended := false, remoteWakeup := false }.emit .cbReset)

/-- EV_RESET (R134). -/
def execEvReset (s : State) : Host.Outcome State Fault Refusal :=
  plainOperation busReset s

/-- CONNECT (R140). -/
def execConnect (s : State) : Host.Outcome State Fault Refusal :=
  plainOperation (fun t =>
    if t.lc = .attached then changeState .powered (t.emit .phyConnect) else t.emit .phyConnect) s

/-- SOF_ENABLE (R138). -/
def execSofEnable (s : State) : Host.Outcome State Fault Refusal :=
  plainOperation (fun t => { t with sofEnabled := true }.emit .phySofEnable) s

/-- SOF_DISABLE (R139). -/
def execSofDisable (s : State) : Host.Outcome State Fault Refusal :=
  plainOperation (fun t => { t with sofEnabled := false }.emit .phySofDisable) s

end Sys2Proof.Machine
end

