-- ==== Sys2Proof/Machine/Dispatch.lean ====
section
/-! DEFINITION. One arm per row of spec/opcode_table.json, each one direct call of the row's meaning. -/

namespace Sys2Proof.Machine

def exec (i : Instr) (s : State) : Host.Outcome State Fault Refusal :=
  match i with
  | .evPower powered => Sys2Proof.Machine.execEvPower powered s
  | .evSuspend suspended => Sys2Proof.Machine.execEvSuspend suspended s
  | .evSof frame => Sys2Proof.Machine.execEvSof frame s
  | .evReset => Sys2Proof.Machine.execEvReset s
  | .evEp0Setup packet => Sys2Proof.Machine.execEvEp0Setup packet s
  | .evEp0Out data => Sys2Proof.Machine.execEvEp0Out data s
  | .evEp0In => Sys2Proof.Machine.execEvEp0In s
  | .evOut ep data => Sys2Proof.Machine.execEvOut ep data s
  | .evIn ep => Sys2Proof.Machine.execEvIn ep s
  | .connect => Sys2Proof.Machine.execConnect s
  | .epAdd ep maxPacket type token => Sys2Proof.Machine.execEpAdd ep maxPacket type token s
  | .epRemove ep => Sys2Proof.Machine.execEpRemove ep s
  | .epStall ep => Sys2Proof.Machine.execEpStall ep s
  | .epUnstall ep => Sys2Proof.Machine.execEpUnstall ep s
  | .readStart ep => Sys2Proof.Machine.execReadStart ep s
  | .readFinish ep buffer maxSize => Sys2Proof.Machine.execReadFinish ep buffer maxSize s
  | .write ep buffer size => Sys2Proof.Machine.execWrite ep buffer size s
  | .sofEnable => Sys2Proof.Machine.execSofEnable s
  | .sofDisable => Sys2Proof.Machine.execSofDisable s
  | .completeRequest result data size => Sys2Proof.Machine.execCompleteRequest result data size s
  | .completeXferDone success => Sys2Proof.Machine.execCompleteXferDone success s
  | .completeSetConfiguration success => Sys2Proof.Machine.execCompleteSetConfiguration success s
  | .completeSetInterface success => Sys2Proof.Machine.execCompleteSetInterface success s
  | .abort => Sys2Proof.Machine.execAbort s
  | .lock => Sys2Proof.Machine.execLock s
  | .unlock => Sys2Proof.Machine.execUnlock s
  | .assertLocked context => Sys2Proof.Machine.execAssertLocked context s
  | .getStatusDevice req => Sys2Proof.Machine.execGetStatusDevice req s
  | .getStatusInterface req => Sys2Proof.Machine.execGetStatusInterface req s
  | .getStatusEndpoint req => Sys2Proof.Machine.execGetStatusEndpoint req s
  | .clearFeatureDevice req => Sys2Proof.Machine.execClearFeatureDevice req s
  | .clearFeatureEndpoint req => Sys2Proof.Machine.execClearFeatureEndpoint req s
  | .setFeatureDevice req => Sys2Proof.Machine.execSetFeatureDevice req s
  | .setFeatureEndpoint req => Sys2Proof.Machine.execSetFeatureEndpoint req s
  | .setAddress req => Sys2Proof.Machine.execSetAddress req s
  | .getDescriptor req => Sys2Proof.Machine.execGetDescriptor req s
  | .getConfiguration req => Sys2Proof.Machine.execGetConfiguration req s
  | .setConfiguration req => Sys2Proof.Machine.execSetConfiguration req s
  | .getInterface req => Sys2Proof.Machine.execGetInterface req s
  | .setInterface req => Sys2Proof.Machine.execSetInterface req s

end Sys2Proof.Machine
end

