-- ==== Sys2Proof/Machine/Fetch.lean ====
section
/-! DEFINITION. Which input a step takes. EP0CTU fetches no instructions (spec/20_memory.md R50): its operations are issued
by the agents (spec/00_scope.md R6, R7), and while the guard is held the PHY's events are passed over, in order, none of
them lost (spec/45_guard.md R141). -/

namespace Sys2Proof.Machine

/-- A record the PHY issues: its op byte is that of an event (R79). DESIGN CHOICE (notes/assumptions/15.md): the op byte
alone decides, so a record with such an op byte that the decoder refuses (R80) is held with the events while the guard is
held (R141, R166), and refused only once it is free. -/
def isEventRecord : List Byte → Bool
  | op :: _ => isEventOp op
  | [] => false

/-- An input the guard holds back while LOCK_DEPTH > 0. -/
def Input.isEvent : Input → Bool
  | .record bs => isEventRecord bs
  | .callerStore _ _ => false
  | .callerLend _ => false

/-- The first input that may be taken, and the inputs that remain, in order. -/
def takeInput (locked : Bool) : List Input → Option (Input × List Input)
  | [] => none
  | x :: rest =>
    if locked && x.isEvent then
      match takeInput locked rest with
      | some (y, left) => some (y, x :: left)
      | none => none
    else some (x, rest)

/-- The input the next step takes, and what remains of the inputs. -/
def nextInput (s : State) : Option (Input × List Input) :=
  takeInput (s.lockDepth != 0) s.inputs

/-- The caller stores to memory it owns (R59, R163); notes/assumptions/7.md. -/
def callerStores (a : Word) (d : List Byte) (s : State) : State :=
  { s with mem := Memory.writeBytes s.mem a d }

/-- The caller changes which ranges exist (R163); notes/assumptions/7.md. -/
def callerLends (regions : List Region) (s : State) : State :=
  { s with tbm := regions }

/-- The record `COMPLETE_REQUEST PassThrough, 0, 0`: the class passes a request to the dispatcher (R86). -/
def passRecord : List Byte :=
  encode Pseudo.pass.expand

/-- Place an operation record where the next step takes it. An event is taken only while the guard is free (R141). -/
def placeRecord (bs : List Byte) (s : State) : State :=
  { s with
    lockDepth := if isEventRecord bs then 0 else s.lockDepth
    inputs := .record bs :: s.inputs }

/-- Place a setup packet where the next step runs it: in CTX, its `cb.request` unanswered, and the class's PassThrough as
the next operation (R103, R107, R108). -/
def placeRequest (p : SetupPacket) (s : State) : State :=
  { s with
    ctx := { s.ctx with setup := p, stage := .setup, awaiting := .request }
    inputs := .record passRecord :: s.inputs }

/-- Place a word of either kind. -/
def placeWord (k : WordKind) (bs : List Byte) (s : State) : State :=
  match k with
  | .operation => placeRecord bs s
  | .request =>
    match SetupPacket.ofBytes bs with
    | some p => placeRequest p s
    | none => s

end Sys2Proof.Machine
end

