-- ==== Sys2Proof/Machine/Step.lean ====
section
/-! DEFINITION. One step: the next input is taken and performed whole (spec/00_scope.md R6). With nothing to take the
machine waits (notes/assumptions/11.md). -/

namespace Sys2Proof.Machine

/-- Perform one input on a state from whose inputs it has been taken. -/
def perform (x : Input) (s : State) : Host.Outcome State Fault Refusal :=
  match x with
  | .record bs =>
    match decodeRecord bs with
    | .ok i => exec i s
    | .error e => .refused (.badRecord e bs)
  | .callerStore a d => .next (callerStores a d s.begin)
  | .callerLend regions => .next (callerLends regions s.begin)

/-- One step of EP0CTU. -/
def step (s : State) : Host.Outcome State Fault Refusal :=
  match nextInput s with
  | none => .next s.begin
  | some (x, rest) => perform x { s with inputs := rest }

/-- The state with the instruction of an opcode-table word as the next thing the machine runs: an operation's record at
the head of the inputs, a standard request's setup packet in CTX with the class's PassThrough at the head of the inputs
(notes/assumptions/1.md, notes/assumptions/8.md). -/
def State.withFetchWord (s : State) (nbits w : Nat) : State :=
  placeWord (tableKind nbits) (tableBytes nbits w) s

end Sys2Proof.Machine
end

