-- ==== Sys2Proof/Safety.lean ====
section
/-! DEFINITION. What a run of EP0CTU keeps: the invariants of spec/10_state.md R47 and what makes them inductive, the buffer
pointer's bounds (spec/20_memory.md R55), the form of the Endpoint Table and of the memory, and reachability from a unit
reset. A step is safe where it ends in no model fault (spec/60_exceptions.md R147). -/

namespace Sys2Proof.Safety

open Sys2Proof.Machine

/-- The step ends in no model fault. -/
def safeStep (s : State) : Bool :=
  match step s with
  | .fault _ => false
  | .next _ | .refused _ => true

/-- I1 (R47): Configured exactly when the configuration number is non-zero. -/
def ConfiguredIff (s : State) : Prop :=
  s.lc = .configured ↔ s.configuration ≠ 0

/-- I2 (R47): Address and Configured imply a non-zero bus address. -/
def HasAddress (s : State) : Prop :=
  s.lc = .address ∨ s.lc = .configured → s.address ≠ 0

/-- I3 (R47): a request, configuration or interface answer is awaited only in stage Setup. -/
def AwaitsInSetup (s : State) : Prop :=
  s.ctx.awaiting = .request ∨ s.ctx.awaiting = .setConfiguration ∨ s.ctx.awaiting = .setInterface →
    s.ctx.stage = .setup

/-- I4 (R47): in stage Setup no packet is outstanding. -/
def SetupIdle (s : State) : Prop :=
  s.ctx.stage = .setup → s.ctx.ep0OutArmed = false ∧ s.ctx.ep0InBusy = false

/-- I5 (R47): at most one of the endpoint-0 flags is set. -/
def OneFlag (s : State) : Prop :=
  ¬(s.ctx.ep0OutArmed = true ∧ s.ctx.ep0InBusy = true)

/-- I6 (R47): XferDone is awaited at the end of a data stage, with no packet outstanding. -/
def XferDoneAtEnd (s : State) : Prop :=
  s.ctx.awaiting = .xferDone →
    (s.ctx.stage = .dataIn ∨ s.ctx.stage = .dataOut) ∧ s.ctx.remaining = 0 ∧
      s.ctx.ep0OutArmed = false ∧ s.ctx.ep0InBusy = false

/-- I7 (R47): at most one transfer pends on an endpoint, and an unregistered record is empty. -/
def TableIdle (s : State) : Prop :=
  ∀ i : Fin 30, (s.ep i).pending ≤ 1 ∧ ((s.ep i).valid = false → s.ep i = EpRecord.empty)

/-- I8 (R47): REMAINING never exceeds wLength. -/
def RemainingFits (s : State) : Prop :=
  s.ctx.remaining ≤ s.ctx.setup.wLength.setWidth 32

/-- The invariants I1 to I8 of R47. -/
structure SpecInv (s : State) : Prop where
  i1 : ConfiguredIff s
  i2 : HasAddress s
  i3 : AwaitsInSetup s
  i4 : SetupIdle s
  i5 : OneFlag s
  i6 : XferDoneAtEnd s
  i7 : TableIdle s
  i8 : RemainingFits s

/-- SET_CONFIGURATION hands its change to the class only in Address or Configured (R114), so its answer comes there. -/
def ConfigurationAskedInState (s : State) : Prop :=
  s.ctx.awaiting = .setConfiguration → s.lc = .address ∨ s.lc = .configured

/-- SET_CONFIGURATION and SET_INTERFACE are handed on only with wLength = 0 (R114, R117). -/
def AskedWithoutData (s : State) : Prop :=
  s.ctx.awaiting = .setConfiguration ∨ s.ctx.awaiting = .setInterface → s.ctx.setup.wLength = 0

/-- An address is latched only during the status stage of a SET_ADDRESS, while its zero-length packet to the host is
outstanding, and Default and Address allow that request (R111). -/
def LatchedInStatus (s : State) : Prop :=
  s.ctx.pendAddrValid = true →
    s.ctx.stage = .status ∧ s.ctx.ep0InBusy = true ∧ (s.lc = .default ∨ s.lc = .address)

/-- A packet to the host is outstanding only in the stages that send one (R98: "EP0_IN_BUSY implies DataIn or Status"), and
endpoint 0 is armed only in those that receive one (R99). -/
def FlagsFitStage (s : State) : Prop :=
  (s.ctx.ep0InBusy = true → s.ctx.stage = .dataIn ∨ s.ctx.stage = .status) ∧
  (s.ctx.ep0OutArmed = true → s.ctx.stage = .dataOut ∨ s.ctx.stage = .status)

/-- The invariants of R47 with the four facts of the handlers that make them, and the table of stage transitions (R87), hold
from one step to the next. -/
structure RunInv (s : State) : Prop extends SpecInv s where
  configurationAsked : ConfigurationAskedInState s
  askedWithoutData   : AskedWithoutData s
  latchedInStatus    : LatchedInStatus s
  flagsFitStage      : FlagsFitStage s

/-- During a data stage the buffer pointer is an address, or for a reply to the host an offset with room for the bytes
left (R55: no rule reaches an access outside). -/
def PointerInBounds (s : State) : Prop :=
  (s.ctx.stage = .dataIn →
    (∃ a, s.ctx.ptr = .mem a) ∨ ∃ o, s.ctx.ptr = .reply o ∧ o.toNat + s.ctx.remaining.toNat ≤ 2) ∧
  (s.ctx.stage = .dataOut → ∃ a, s.ctx.ptr = .mem a)

/-- Bits [7:3] of every FLAGS byte are 0, and a registered endpoint has an accepted type (R42, R74). -/
def FlagsWellFormed (s : State) : Prop :=
  ∀ i : Fin 30, (s.ep i).flags.extractLsb' 3 5 = 0#5 ∧
    ((s.ep i).valid = true → flagsType (s.ep i).flags ≠ 0)

/-- No transfer pends on a stalled endpoint: the stall cancelled it (R120, R131). -/
def StalledIdle (s : State) : Prop :=
  ∀ i : Fin 30, flagsStalled (s.ep i).flags = true → (s.ep i).pending = 0

/-- Every field of EP0CTU at its unit-reset value (R46, R160); what the world outside holds is anything. -/
def Started (s : State) : Prop :=
  s = { State.reset with
    mem := s.mem
    tbm := s.tbm
    cfg := s.cfg
    inputs := s.inputs
    phyAnswers := s.phyAnswers
    draws := s.draws }

/-- The states of a run from a unit reset, whatever the agents issue and the caller's memory holds. -/
inductive Reachable : State → Prop where
  | start {s : State} : Started s → Reachable s
  | step {s t : State} : Reachable s → Machine.step s = .next t → Reachable t

end Sys2Proof.Safety
end

