-- ==== Sys2Proof/Certificates/Slice0/Obligations.lean ====
section
/-! DEFINITION. The statements for the provers, each from a numbered rule of spec/. The first part holds the words the
statements are written in: the states the rules describe, spelled field by field. -/

namespace Sys2Proof.Claims

open Sys2Proof.Machine

/-! ### Words the statements share -/

/-- Nothing changed, nothing emitted, nothing returned. -/
def quiet (s : State) : State :=
  { s with out := [], ret := none }

/-- The step emitted `os` and returned nothing. -/
def emitting (os : List Output) (s : State) : State :=
  { s with out := os, ret := none }

/-- The step emitted `os` and returned a Bool. -/
def answering (os : List Output) (ok : Bool) (s : State) : State :=
  { s with out := os, ret := some (.bool ok) }

/-- The step returned READ_FINISH's pair and emitted nothing. -/
def answeringSized (ok : Bool) (n : Word) (s : State) : State :=
  { s with out := [], ret := some (.sized ok n) }

/-- The step ended in AbortStall with this cause code (R90). -/
def stalledWith (code : Byte) (s : State) : State :=
  { s with
    ctx := Ctx.reset
    ep0Stalled := true
    stallCause := code
    out := [.ep0Stall]
    ret := none }

/-- The status stage begins with the device's zero-length packet (R94), after the outputs `os`. -/
def inStatusIn (os : List Output) (s : State) : State :=
  { s with
    ctx := { s.ctx with stage := .status, ep0InBusy := true }
    out := os ++ [.ep0Write []]
    ret := none }

/-- The status stage begins with endpoint 0 armed for the host's zero-length packet (R94). -/
def inStatusOut (s : State) : State :=
  { s with
    ctx := { s.ctx with stage := .status, ep0OutArmed := true }
    out := [.ep0Read 0]
    ret := none }

/-- The last packet of a data stage has moved: the class is told, or the status stage begins opposite to the data stage
(R94, R95). -/
def stageEnded (s : State) : State :=
  if s.ctx.notify then
    emitting [.cbRequestXferDone s.ctx.setup] { s with ctx := { s.ctx with awaiting := .xferDone } }
  else if s.ctx.direction = .send then inStatusOut s
  else inStatusIn [] s

/-- The lifecycle moves to `new` after the outputs `os`: nothing where it is there already, and the selection is lost
where the device does not become Configured (R132). -/
def moved (new : Lifecycle) (os : List Output) (s : State) : State :=
  if s.lc = new then emitting os s
  else
    { s with
      lc := new
      configuration := if new = .configured then s.configuration else 0
      iface := if new = .configured then s.iface else 0
      alternate := if new = .configured then s.alternate else 0
      out := os ++ [.cbStateChange new]
      ret := none }

/-- The status stage is over: the transfer ends, and a latched address is applied (R96). -/
def transferEnded (s : State) : State :=
  if s.ctx.pendAddrValid then
    moved (if s.ctx.pendAddr = 0 then .default else .address) [.phySetAddress s.ctx.pendAddr]
      { s with ctx := Ctx.reset, address := s.ctx.pendAddr }
  else quiet { s with ctx := Ctx.reset }

/-- The dispatcher's Success: no data stage, nobody notified, the status stage begins (R91, R94). -/
def resolved (os : List Output) (s : State) : State :=
  inStatusIn os { s with ctx := { s.ctx with notify := false, direction := .none } }

/-- MPS0 in bytes (R8). -/
def mps0 (s : State) : Nat :=
  match s.cfg.mps0 with
  | .b8 => 8
  | .b16 => 16
  | .b32 => 32
  | .b64 => 64

/-- `n` bytes may be read through a buffer pointer (R53, R55). -/
def Readable (s : State) (p : BufPtr) (n : Nat) : Prop :=
  match p with
  | .mem a => n = 0 ∨ s.admits a (BitVec.ofNat 32 n) = true
  | .reply o => o.toNat + n ≤ 2
  | .null => n = 0

/-- The bytes `d` are those a buffer pointer refers to (R53, R55). -/
def BytesAt (s : State) (p : BufPtr) (d : List Byte) : Prop :=
  ∀ k, k < d.length →
    d[k]? =
      match p with
      | .mem a => some (s.readByte (a + BitVec.ofNat 32 k))
      | .reply o => [s.ctx.reply.b0, s.ctx.reply.b1][o.toNat + k]?
      | .null => none

/-- Every part of the `n` bytes from `a` is admitted (R48: the range exists). -/
def RangeAdmitted (s : State) (a : Word) (n : Nat) : Prop :=
  ∀ o m, o + m ≤ n → m = 0 ∨ s.admits (a + BitVec.ofNat 32 o) (BitVec.ofNat 32 m) = true

/-- In `t` the bytes from `a` are `d`, and every other byte of the memory reads as in `s`. -/
def Stored (s t : State) (a : Word) (d : List Byte) : Prop :=
  (∀ k, k < d.length → some (t.readByte (a + BitVec.ofNat 32 k)) = d[k]?) ∧
  ∀ x : Word, d.length ≤ (x - a).toNat → t.readByte x = s.readByte x

/-- An IN data stage has begun: the state after its first packet `d`, the rest still to come (R91, R93). -/
def dataInBegun (p : BufPtr) (total : Nat) (wl : Half) (d : List Byte) (s : State) : State :=
  { s with
    ctx := { s.ctx with
      ptr := p.advance (BitVec.ofNat 32 (min total (mps0 s)))
      remaining := BitVec.ofNat 32 (total - min total (mps0 s))
      direction := .send
      zlp := decide (0 < total ∧ total % mps0 s = 0 ∧ total < wl.toNat)
      stage := .dataIn
      ep0InBusy := true }
    out := [.ep0Write d]
    ret := none }

/-- The outcome of `exec i s` is that of answering the request with Send: an IN data stage of `total` bytes at `p`, the
first packet read through `p`, or a BufferFault where its bytes do not exist (R53, R91, R93). -/
def SendsFirstPacket (i : Instr) (s s' : State) (p : BufPtr) (total : Nat) (wl : Half) : Prop :=
  (Readable s' p (min total (mps0 s')) →
    ∃ d : List Byte, d.length = min total (mps0 s') ∧ BytesAt s' p d ∧
      exec i s = .next (dataInBegun p total wl d s')) ∧
  (¬Readable s' p (min total (mps0 s')) →
    exec i s = .fault (.bufferFault i p (BitVec.ofNat 32 (min total (mps0 s')))))

/-- `exec i s` answers with the first bytes of REPLY, `size` of them at most and at most wLength: a request of the wrong
direction, or with no data stage, STALLs (R49, R91). -/
def Replies (i : Instr) (r : RequestArgs) (b : Byte) (size : Nat) (s : State) : Prop :=
  exec i s = .next
    (if r.dirIn = true ∧ r.wLength ≠ 0 then
      dataInBegun (.reply 0) (min size r.wLength.toNat) r.wLength ([b, 0#8].take (min size r.wLength.toNat))
        { s with ctx := { s.ctx with reply := ⟨b, 0⟩, notify := false } }
    else stalledWith 6 s)

/-- Address or Configured: the states most standard requests need (R108). -/
def Addressed (s : State) : Prop :=
  s.lc = .address ∨ s.lc = .configured

/-- A record that is not VALID: every other field at its reset value (R39, R40 to R44). -/
def unregistered : EpRecord where
  valid   := false
  cb      := 0
  mps     := 0
  flags   := 0
  pending := 0
  rx      := none

/-- A state whose endpoint `i` has the record `r`. -/
def withEp (i : Fin 30) (r : EpRecord) (s : State) : State :=
  { s with et := s.et.set i.val r }

/-- `ep` is the address of slot `i` (R73): a valid address, `idx(ep) = 2 * ep[3:0] + ep[7] - 2`. -/
def IsSlot (ep : Byte) (i : Fin 30) : Prop :=
  ep.extractLsb' 4 3 = 0#3 ∧ ep.extractLsb' 0 4 ≠ 0#4 ∧
    i.val = 2 * (ep.extractLsb' 0 4).toNat + (ep.extractLsb' 7 1).toNat - 2

/-- No endpoint of the table has this address: endpoint 0, or reserved bits set (R73). -/
def NoSlot (ep : Byte) : Prop :=
  ep.extractLsb' 4 3 ≠ 0#3 ∨ ep.extractLsb' 0 4 = 0#4

/-- `isIn(ep)` (R73). -/
def In (ep : Byte) : Prop :=
  ep.getLsbD 7 = true

/-- The endpoint is not there for a command: an invalid address, or an unregistered one. -/
def Absent (ep : Byte) (s : State) : Prop :=
  NoSlot ep ∨ ∃ i, IsSlot ep i ∧ (s.et[i.val]).valid = false

/-- `ep = wIndex[7:0]`, and the reserved bits around it are zero as R109 and R110 check. -/
def endpointOf (r : RequestArgs) : Byte :=
  r.wIndex.extractLsb' 0 8

/-- `x`, an execution of `i`, and `y`, an execution of `j`, are the same step: the same next state, or the same breach (the
fault with its pointer and length), each recording its own operation. -/
def SameStep (i j : Instr) (x y : Host.Outcome State Fault Refusal) : Prop :=
  (∃ t, x = .next t ∧ y = .next t) ∨ ∃ b : Breach, x = .fault (b.raisedBy i) ∧ y = .fault (b.raisedBy j)

/-- The packet sizes of an IN data stage of `total` bytes (R100). -/
def inSizes (total m wl : Nat) : List Nat :=
  if total = 0 then [0]
  else
    List.replicate ((total + m - 1) / m - 1) m ++ [total - ((total + m - 1) / m - 1) * m] ++
      (if total % m = 0 ∧ total < wl then [0] else [])

/-- The packet sizes of an OUT data stage of `total` bytes (R101). -/
def outSizes (total m : Nat) : List Nat :=
  List.replicate ((total + m - 1) / m - 1) m ++ [total - ((total + m - 1) / m - 1) * m]

/-- `n` EV_EP0_IN in a row: the outputs of each, and the last state. -/
def inEvents : Nat → State → Option (List (List Output) × State)
  | 0, s => some ([], s)
  | n + 1, s =>
    match exec .evEp0In s with
    | .next t => (inEvents n t).map fun r => (t.out :: r.1, r.2)
    | .fault _ | .refused _ => none

/-- The OUT packets `ds` in a row, each accepted without a STALL. -/
def outEvents : List (List Byte) → State → Option State
  | [], s => some s
  | d :: ds, s =>
    match exec (.evEp0Out d) s with
    | .next t => if .ep0Stall ∈ t.out then none else outEvents ds t
    | .fault _ | .refused _ => none

/-- The least length of a record, by its op byte and the bytes after it (R78, R79, R81); 0 for a reserved op byte. -/
def recordNeeds (op : Byte) (rest : List Byte) : Nat :=
  match op.toNat with
  | 0x03 | 0x06 | 0x10 | 0x18 | 0x19 | 0x1E | 0x1F | 0x20 => 1
  | 0x00 | 0x01 | 0x08 | 0x12 | 0x13 | 0x14 | 0x15 | 0x1B | 0x1C | 0x1D | 0x21 => 2
  | 0x02 => 3
  | 0x04 | 0x11 => 9
  | 0x16 | 0x17 | 0x1A => 10
  | 0x05 =>
    match rest with
    | n0 :: n1 :: _ => 3 + n0.toNat + 256 * n1.toNat
    | _ => 3
  | 0x07 =>
    match rest with
    | _ :: n0 :: n1 :: _ => 4 + n0.toNat + 256 * n1.toNat
    | _ => 4
  | _ => 0

/-- A reserved op byte (R79). -/
def ReservedOp (op : Byte) : Prop :=
  (0x09 ≤ op.toNat ∧ op.toNat ≤ 0x0F) ∨ 0x22 ≤ op.toNat

/-- The operand check (c) to (f) of R80 a record of full length fails, if any. -/
def operandFault (op : Byte) (rest : List Byte) : Option BadRecord :=
  match op.toNat, rest with
  | 0x00, b :: _ | 0x01, b :: _ | 0x1B, b :: _ | 0x1C, b :: _ | 0x1D, b :: _ =>
    if 1 < b.toNat then some .badBoolean else none
  | 0x21, b :: _ => if 1 < b.toNat then some .badContext else none
  | 0x02, _ :: f1 :: _ => if 8 ≤ f1.toNat then some .badFrame else none
  | 0x1A, r :: _ => if 4 < r.toNat then some .badResult else none
  | _, _ => none

/-- The lifecycle states in which R108 allows a request; the endpoint requests are those for endpoints 1 to 15, but that
GET_STATUS of endpoint 0 is allowed wherever GET_STATUS of the device is. -/
def allowedIn : Instr → Lifecycle → Bool
  | .getStatusDevice _, lc => lc = .address ∨ lc = .configured
  | .getStatusInterface _, lc => lc = .configured
  | .getStatusEndpoint r, lc =>
    lc = .configured ∨ (lc = .address ∧ (endpointOf r).extractLsb' 0 4 = 0#4)
  | .clearFeatureDevice _, lc | .setFeatureDevice _, lc => lc = .address ∨ lc = .configured
  | .clearFeatureEndpoint _, lc | .setFeatureEndpoint _, lc => lc = .configured
  | .setAddress _, lc => lc = .default ∨ lc = .address
  | .getConfiguration _, lc | .setConfiguration _, lc => lc = .address ∨ lc = .configured
  | .getInterface _, lc | .setInterface _, lc => lc = .configured
  | _, _ => true

/-- The cause codes an operation can STALL with (R145). -/
def StallsWith : Instr → Byte → Prop
  | .evEp0In, c => c = 10
  | .evEp0Out _, c => c = 10 ∨ c = 11
  | .completeRequest .failure _ _, c => c = 1
  | .completeRequest .passThrough _ _, c => 2 ≤ c ∧ c ≤ 6
  | .completeRequest .send _ _, c | .completeRequest .receive _ _, c | .completeRequest .success _ _, c => c = 6
  | .completeXferDone _, c => c = 7
  | .completeSetConfiguration _, c => c = 8
  | .completeSetInterface _, c => c = 9
  | .abort, c => c = 12
  | _, _ => False

/-- The operations that access a buffer, and GET_DESCRIPTOR, which sends one (R58, R147). -/
def UsesBuffer : Instr → Prop
  | .evEp0In | .evEp0Out _ | .readFinish _ _ _ | .write _ _ _ | .completeRequest .send _ _ => True
  | .completeRequest .passThrough _ _ | .getDescriptor _ => True
  | _ => False

/-- The step took the transfer to its end by a STALL (AbortStall, R90): the "+STALL" of R87. -/
def Stalled (t : State) : Prop :=
  t.out = [.ep0Stall]

/-- An OUT data packet of `n` bytes that fits the data stage (R99): no longer than MPS0 or than the bytes still expected, and
short of MPS0 only where it is the last. -/
def PacketFits (s : State) (n : Nat) : Prop :=
  n ≤ mps0 s ∧ n ≤ s.ctx.remaining.toNat ∧ (n = mps0 s ∨ n = s.ctx.remaining.toNat)

/-- The step from `s` to `t` is a row of R87's table that takes the control transfer from one stage to another: the
operation, the two stages, the row's condition on `s`, and whether it STALLs. -/
def StageChange (i : Instr) (s t : State) : Prop :=
  match i, s.ctx.stage, t.ctx.stage with
  | .evEp0Setup _, _, .setup => t.ctx.awaiting = .request ∧ ¬Stalled t
  | .evReset, _, .setup => t.ctx.awaiting = .none ∧ ¬Stalled t
  | .completeRequest .send _ _, .setup, .dataIn =>
    s.ctx.awaiting = .request ∧ s.ctx.setup.dirIn = true ∧ s.ctx.setup.wLength ≠ 0
  | .completeRequest .receive _ x, .setup, .dataOut =>
    s.ctx.awaiting = .request ∧ s.ctx.setup.dirIn = false ∧ s.ctx.setup.wLength ≠ 0 ∧
      s.ctx.setup.wLength.toNat ≤ x.toNat
  | .completeRequest .success _ _, .setup, .status => s.ctx.awaiting = .request ∧ s.ctx.setup.wLength = 0
  | .completeRequest .passThrough _ _, .setup, .dataIn =>
    s.ctx.awaiting = .request ∧ s.ctx.setup.dirIn = true ∧ s.ctx.setup.wLength ≠ 0
  | .completeRequest .passThrough _ _, .setup, .status => s.ctx.awaiting = .request ∧ s.ctx.setup.wLength = 0
  | .completeSetConfiguration true, .setup, .status => s.ctx.awaiting = .setConfiguration
  | .completeSetInterface true, .setup, .status => s.ctx.awaiting = .setInterface
  | .evEp0In, .dataIn, .status =>
    s.ctx.ep0InBusy = true ∧ s.ctx.remaining = 0 ∧ s.ctx.zlp = false ∧ s.ctx.notify = false
  | .evEp0Out d, .dataOut, .status =>
    s.ctx.ep0OutArmed = true ∧ PacketFits s d.length ∧ s.ctx.remaining.toNat = d.length ∧ s.ctx.notify = false
  | .completeXferDone true, .dataIn, .status | .completeXferDone true, .dataOut, .status =>
    s.ctx.awaiting = .xferDone
  | .completeXferDone false, .dataIn, .setup | .completeXferDone false, .dataOut, .setup =>
    s.ctx.awaiting = .xferDone ∧ Stalled t
  | .evEp0In, .status, .setup => if s.ctx.ep0InBusy then ¬Stalled t else Stalled t
  | .evEp0Out d, .status, .setup => if s.ctx.ep0OutArmed = true ∧ d = [] then ¬Stalled t else Stalled t
  | .evEp0Out d, .dataOut, .setup => (s.ctx.ep0OutArmed = false ∨ ¬PacketFits s d.length) ∧ Stalled t
  | .evEp0In, .dataIn, .setup | .evEp0In, .dataOut, .setup => s.ctx.ep0InBusy = false ∧ Stalled t
  | .evEp0Out _, .dataIn, .setup => s.ctx.ep0OutArmed = false ∧ Stalled t
  | .abort, _, .setup => ¬(s.ctx.stage = .setup ∧ s.ctx.awaiting = .none) ∧ Stalled t
  | _, _, _ => False

/-- The lifecycle transitions of R133, each with the operation that makes it. -/
def LifecycleChange (i : Instr) (s : State) (new : Lifecycle) : Prop :=
  (i = .connect ∧ s.lc = .attached ∧ new = .powered) ∨
  (i = .evReset ∧ new = .default) ∨
  (i = .evEp0In ∧ s.ctx.stage = .status ∧ s.ctx.pendAddrValid = true ∧
    ((s.ctx.pendAddr ≠ 0 ∧ s.lc = .default ∧ new = .address) ∨
     (s.ctx.pendAddr = 0 ∧ s.lc = .address ∧ new = .default))) ∨
  (i = .completeSetConfiguration true ∧
    ((s.lc = .address ∧ new = .configured) ∨ (s.lc = .configured ∧ new = .address)))

/-- The commands and events of the other endpoints (43_endpoints.md). -/
def OnEndpoints : Instr → Prop
  | .epAdd _ _ _ _ | .epRemove _ | .epStall _ | .epUnstall _ | .readStart _ | .readFinish _ _ _
  | .write _ _ _ | .evOut _ _ | .evIn _ => True
  | _ => False

/-- The commands of R119 that return a value. -/
def ReturnsValue : Instr → Prop
  | .epAdd _ _ _ _ | .epRemove _ | .epStall _ | .epUnstall _ | .readStart _ | .readFinish _ _ _
  | .write _ _ _ => True
  | _ => False

end Sys2Proof.Claims

open Sys2Proof Sys2Proof.Machine Sys2Proof.Safety Sys2Proof.Claims

/-! ### Encodings -/

/-- Records of the spec decode to the operations they stand for, and the records it refuses are refused with the reason
it gives (R79, R80; 95_test_vectors.md V2.9, V2.6, V2.7). -/
def Obligations.SpecRecordsDecode : Prop :=
  decodeRecord [0x04, 0x80, 0x06, 0x00, 0x01, 0x00, 0x00, 0x40, 0x00] =
    .ok (.evEp0Setup ⟨0x80, 0x06, 0x00, 0x01, 0x00, 0x00, 0x40, 0x00⟩) ∧
  decodeRecord [0x05, 0x03, 0x00, 0x01, 0x02, 0x03] = .ok (.evEp0Out [0x01, 0x02, 0x03]) ∧
  decodeRecord [0x16, 0x02, 0x00, 0x40, 0x00, 0x00, 0x40, 0x00, 0x00, 0x00] =
    .ok (.readFinish 0x02 0x00004000 64) ∧
  decodeRecord [0x11, 0x8F, 0x00, 0x02, 0x01, 0x05, 0x00, 0x00, 0x00] = .ok (.epAdd 0x8F 512 1 5) ∧
  decodeRecord [0x02, 0xFF, 0x07] = .ok (.evSof 0x7FF) ∧
  decodeRecord [0x09] = .error .reservedOp ∧
  decodeRecord [0x05, 0x04, 0x00, 0xAA] = .error .shortRecord ∧
  decodeRecord [0x02, 0x00, 0x08] = .error .badFrame ∧
  decodeRequest ⟨0x82, 0x00, 0x00, 0x00, 0x81, 0x00, 0x02, 0x00⟩ =
    some (.getStatusEndpoint ⟨true, 0, 0x0081, 2⟩)

/-- DECODE AND ENCODE AGREE: every well-formed instruction is what its own encoding decodes to, every operand at every
value. -/
def Obligations.DecodeEncode : Prop :=
  ∀ i : Instr, i.wellFormed = true → decodeWord i.kind (encode i) = some i

/-- Each record has one meaning: it decodes to an operation exactly where it begins with that operation's encoding. That
bytes past the record's length are no part of it is the model's choice (notes/assumptions/9.md). -/
def Obligations.RecordHasOneMeaning : Prop :=
  ∀ (bs : List Byte) (i : Instr), decodeRecord bs = .ok i ↔
    i.wellFormed = true ∧ i.kind = .operation ∧ ∃ rest, bs = encode i ++ rest

/-- R67, R83, R107: a setup packet selects a standard request exactly where it is that request's encoding: type Standard,
the request's code and recipient, either direction, any wValue, wIndex and wLength. -/
def Obligations.RequestMap : Prop :=
  ∀ (p : SetupPacket) (i : Instr), decodeRequest p = some i ↔ i.kind = .request ∧ encode i = p.bytes

/-- R80: the decoder refuses a record in its six cases. That it refuses in no other, so that a record longer than its format
is accepted, is the model's choice (notes/assumptions/9.md), as R80 is silent on such a record. So are which of two reasons is
given where a record is short and an operand is bad, and that a record with no op byte is refused as short
(notes/assumptions/10.md). -/
def Obligations.DecoderRefusals : Prop :=
  decodeRecord [] = .error .shortRecord ∧
  ∀ (op : Byte) (rest : List Byte),
    (ReservedOp op → decodeRecord (op :: rest) = .error .reservedOp) ∧
    (¬ReservedOp op → rest.length + 1 < recordNeeds op rest →
      decodeRecord (op :: rest) = .error .shortRecord) ∧
    (¬ReservedOp op → recordNeeds op rest ≤ rest.length + 1 →
      match operandFault op rest with
      | some e => decodeRecord (op :: rest) = .error e
      | none => ∃ i, decodeRecord (op :: rest) = .ok i)

/-- R73: the 30 valid endpoint addresses are mapped one-to-one onto the slots 0 to 29. -/
def Obligations.EndpointSlots : Prop :=
  (∀ (ep : Byte) (i : Fin 30), epSlot ep = some i ↔ IsSlot ep i) ∧
  (∀ ep : Byte, epSlot ep = none ↔ NoSlot ep) ∧
  (∀ i : Fin 30, ∃ ep : Byte, epSlot ep = some i ∧ ∀ ep', epSlot ep' = some i → ep' = ep) ∧
  ∀ ep : Byte, isIn ep = true ↔ In ep

/-! ### The step -/

/-- A STEP RUNS THE DECODED OPERATION: where the input taken is a record that decodes to `i`, the step is `exec i` on the
state without that input; where the decoder refuses the record no step happens, and the refusal names the record and the
reason (R80, R147). That inputs wait in a list of State is the model's choice (notes/assumptions/1.md). -/
def Obligations.StepRunsOperation : Prop :=
  ∀ (s : State) (bs : List Byte) (rest : List Input), nextInput s = some (.record bs, rest) →
    (∀ i, decodeRecord bs = .ok i → step s = exec i { s with inputs := rest }) ∧
    ∀ e, decodeRecord bs = .error e → step s = .refused (.badRecord e bs)

/-- A STEP RUNS THE DECODED REQUEST (R107): PassThrough, while the class's answer is awaited, runs the standard request the
setup packet in CTX selects, in the same step: the same next state, or the same fault with the same pointer and length; a
packet that selects none STALLs with REQ_UNSUPPORTED. (That a request executed by itself records itself in a fault, where R147
names COMPLETE_REQUEST, is the model's reading, notes/assumptions/8.md.) -/
def Obligations.PassThroughRunsRequest : Prop :=
  ∀ (s : State) (a x : Word), s.ctx.awaiting = .request →
    (∀ i, decodeRequest s.ctx.setup = some i →
      SameStep (.completeRequest .passThrough a x) i (exec (.completeRequest .passThrough a x) s)
        (exec i { s with ctx := { s.ctx with awaiting := .none, deferred := false } })) ∧
    (decodeRequest s.ctx.setup = none →
      exec (.completeRequest .passThrough a x) s = .next (stalledWith 2 s))

/-- R141 (the spec's decision D42): while the guard is held the PHY's pending events keep their order and none is lost,
whatever the step does, and commands have a step at any depth. Which input is taken is the model's choice, since R7 and R141
leave the order of the agents open (notes/assumptions/1.md): with the guard free the oldest, and while it is held the oldest
that is no event. So is that the op byte alone makes a record an event (notes/assumptions/15.md). -/
def Obligations.GuardHoldsEvents : Prop :=
  (∀ s t : State, s.lockDepth ≠ 0 → step s = .next t →
    t.inputs.filter Input.isEvent = s.inputs.filter Input.isEvent) ∧
  (∀ (bs : List Byte) (i : Instr), decodeRecord bs = .ok i → Input.isEvent (.record bs) = i.isEvent) ∧
  ∀ (s : State) (held : List Input) (x : Input) (rest : List Input),
    s.inputs = held ++ x :: rest → (∀ h ∈ held, h.isEvent = true) →
    (s.lockDepth = 0 ∧ held = [] ∨ s.lockDepth ≠ 0 ∧ x.isEvent = false) →
    nextInput s = some (x, held ++ rest)

/-- With nothing to take the machine waits: the model's choice (notes/assumptions/11.md), as is what the caller's own moves
between steps do (notes/assumptions/7.md): they change the memory, or the ranges that exist, and nothing else. -/
def Obligations.WorldBetweenSteps : Prop :=
  ∀ (s : State) (rest : List Input),
    (nextInput s = none → step s = .next (quiet s)) ∧
    (∀ a d, Memory.wf s.mem = true → d.length ≤ 2 ^ 32 → nextInput s = some (.callerStore a d, rest) →
      ∃ t, step s = .next t ∧ Stored s t a d ∧ t = quiet { s with mem := t.mem, inputs := rest }) ∧
    ∀ regions, nextInput s = some (.callerLend regions, rest) →
      step s = .next (quiet { s with tbm := regions, inputs := rest })

/-! ### Reset and the invariants -/

/-- R46: every field after the unit reset. -/
def Obligations.UnitReset : Prop :=
  State.reset.lc = .attached ∧ State.reset.address = 0 ∧ State.reset.configuration = 0 ∧
  State.reset.iface = 0 ∧ State.reset.alternate = 0 ∧ State.reset.remoteWakeup = false ∧
  State.reset.suspended = false ∧ State.reset.sofEnabled = false ∧
  State.reset.ctx.setup.bytes = [0, 0, 0, 0, 0, 0, 0, 0] ∧ State.reset.ctx.ptr = .null ∧
  State.reset.ctx.remaining = 0 ∧ State.reset.ctx.direction = .none ∧ State.reset.ctx.zlp = false ∧
  State.reset.ctx.notify = false ∧ State.reset.ctx.stage = .setup ∧ State.reset.ctx.deferred = false ∧
  State.reset.ctx.awaiting = .none ∧ State.reset.ctx.pendAddrValid = false ∧
  State.reset.ctx.pendAddr = 0 ∧ State.reset.ctx.ep0OutArmed = false ∧
  State.reset.ctx.ep0InBusy = false ∧ State.reset.ctx.reply = ⟨0, 0⟩ ∧
  State.reset.ep0Stalled = false ∧ State.reset.stallCause = 0 ∧ State.reset.lockDepth = 0 ∧
  ∀ i : Fin 30, (State.reset.et[i.val]).valid = false ∧ (State.reset.et[i.val]).cb = 0 ∧
    (State.reset.et[i.val]).mps = 0 ∧ (State.reset.et[i.val]).flags = 0 ∧
    (State.reset.et[i.val]).pending = 0 ∧ (State.reset.et[i.val]).rx = none

/-- The invariants hold at the unit reset, whatever the world around it holds. -/
def Obligations.InvariantsAtReset : Prop :=
  ∀ s : State, Started s → RunInv s ∧ PointerInBounds s ∧ FlagsWellFormed s ∧ StalledIdle s

/-- Every step keeps the invariants I1 to I8 of R47 (with the four facts of the handlers that carry them from one step to the
next). -/
def Obligations.StepKeepsInvariants : Prop :=
  ∀ s t : State, RunInv s → step s = .next t → RunInv t

/-- R47: the invariants I1 to I8 hold in every state reachable from the unit reset, whatever the agents issue. -/
def Obligations.ReachableStatesKeepRule47 : Prop :=
  ∀ s : State, Reachable s → SpecInv s

/-- Every step keeps the canonical form of the memory. -/
def Obligations.StepKeepsMemoryForm : Prop :=
  ∀ s t : State, Memory.wf s.mem = true → step s = .next t → Memory.wf t.mem = true

/-- Every step keeps the buffer pointer in bounds (R55), the FLAGS bytes well formed (R42: bits [7:3] are always 0), and every
stalled endpoint without a pending transfer (R120, R131: the stall cancelled it). -/
def Obligations.StepKeepsPointerAndFlags : Prop :=
  ∀ s t : State, RunInv s → PointerInBounds s → FlagsWellFormed s → StalledIdle s → step s = .next t →
    PointerInBounds t ∧ FlagsWellFormed t ∧ StalledIdle t

/-! ### Whole-machine rules -/

/-- R148, R55: with the pointer in bounds, the only fault an event can raise is a BufferFault at a transfer-buffer address
outside TBM_ADMIT, and only the two packet events of endpoint 0 can. -/
def Obligations.EventsFaultOnlyOnBuffers : Prop :=
  ∀ (s : State) (i : Instr) (f : Fault), i.isEvent = true → PointerInBounds s → exec i s = .fault f →
    (i = .evEp0In ∨ ∃ d, i = .evEp0Out d) ∧
    ∃ a n, f = .bufferFault i (.mem a) n ∧ n ≠ 0 ∧ s.admits a n = false

/-- R147: which operations raise which fault. No operation is refused. Two points are the model's: GET_DESCRIPTOR executed by
itself raises its own BufferFault, where R147's operation is COMPLETE_REQUEST (notes/assumptions/8.md), and a BufferFault
records the buffer pointer, where R147 records an address (notes/assumptions/12.md). -/
def Obligations.FaultsByOperation : Prop :=
  ∀ (s : State) (i : Instr), (∀ r, exec i s ≠ .refused r) ∧
    ∀ f, exec i s = .fault f →
      (i = .lock ∧ f = .guardOverflow i ∧ s.lockDepth = BitVec.ofNat 32 (2 ^ 32 - 1)) ∨
      (i = .unlock ∧ f = .unlockUnderflow i ∧ s.lockDepth = 0) ∨
      (i = .assertLocked .thread ∧ f = .guardNotHeld i ∧ s.lockDepth = 0) ∨
      (UsesBuffer i ∧ ∃ p n, f = .bufferFault i p n)

/-- R37, R145, R151: a step that STALLs leaves CTX reset, records a cause the operation can give, emits the STALL and
nothing else, and leaves the lifecycle alone; STALL_CAUSE changes in no other step. (The codes are the spec's decision
D21.) -/
def Obligations.StallsRecordTheirCause : Prop :=
  ∀ (s t : State) (i : Instr), RunInv s → i.kind = .operation → exec i s = .next t →
    (.ep0Stall ∈ t.out → ∃ c : Byte, StallsWith i c ∧ t.stallCause = c ∧ t.ep0Stalled = true ∧
      t.ctx = Ctx.reset ∧ t.out = [.ep0Stall] ∧ t.lc = s.lc) ∧
    (.ep0Stall ∉ t.out → t.stallCause = s.stallCause)

/-- R132, R133: the lifecycle changes only in the transitions listed, each by the operation listed; a change is notified,
once, and clears the selection unless the device becomes Configured; no other step notifies one. -/
def Obligations.LifecycleTransitions : Prop :=
  ∀ (s t : State) (i : Instr), RunInv s → i.kind = .operation → exec i s = .next t →
    (t.lc = s.lc ∧ ∀ lc, .cbStateChange lc ∉ t.out) ∨
    (t.lc ≠ s.lc ∧ LifecycleChange i s t.lc ∧
      t.out.filter (fun o => o matches .cbStateChange _) = [.cbStateChange t.lc] ∧
      (t.lc ≠ .configured → t.configuration = 0 ∧ t.iface = 0 ∧ t.alternate = 0))

/-- R87: the stage changes only as the table of transitions lists: by the row's operation, between its two stages, under its
condition, with a STALL where the row has one and without where it has none. -/
def Obligations.StageTransitions : Prop :=
  ∀ (s t : State) (i : Instr), RunInv s → i.kind = .operation → exec i s = .next t →
    t.ctx.stage = s.ctx.stage ∨ StageChange i s t

/-- The address changes only in a bus reset, which makes it 0 (R18, R134, the spec's decision D32), and in the EV_EP0_IN that
reports the status packet of a SET_ADDRESS sent (R167); only that step tells the PHY an address, and it is the one the request
carried. -/
def Obligations.AddressTiming : Prop :=
  ∀ (s t : State) (i : Instr), RunInv s → i.kind = .operation → exec i s = .next t →
    (t.address ≠ s.address → (i = .evReset ∧ t.address = 0) ∨ (∃ a, .phySetAddress a ∈ t.out)) ∧
    ∀ a, .phySetAddress a ∈ t.out →
      i = .evEp0In ∧ s.ctx.stage = .status ∧ s.ctx.ep0InBusy = true ∧ s.ctx.pendAddrValid = true ∧
        a = s.ctx.pendAddr ∧ t.address = a

/-- R60, R143, R8: only EV_EP0_OUT and READ_FINISH write the transfer-buffer memory; only LOCK and UNLOCK change the guard
depth; no operation changes a parameter, the admitted ranges or what the agents have issued. -/
def Obligations.OnlyTheNamedWriters : Prop :=
  ∀ (s t : State) (i : Instr), exec i s = .next t →
    ((¬∃ d, i = .evEp0Out d) → (¬∃ ep a x, i = .readFinish ep a x) → t.mem = s.mem) ∧
    (i ≠ .lock → i ≠ .unlock → t.lockDepth = s.lockDepth) ∧
    t.cfg = s.cfg ∧ t.tbm = s.tbm ∧ t.inputs = s.inputs

/-- R119, R169: what runs on the other endpoints leaves the control transfer, the lifecycle and the selection alone; the
control transfer leaves the Endpoint Table alone, but for the two standard requests that switch a halt (R110), run by a
PassThrough the class's answer to the request is awaited for. -/
def Obligations.ControlAndTableAreApart : Prop :=
  ∀ (s t : State) (i : Instr), exec i s = .next t →
    (OnEndpoints i → t.ctx = s.ctx ∧ t.ep0Stalled = s.ep0Stalled ∧ t.stallCause = s.stallCause ∧ t.lc = s.lc ∧
      t.address = s.address ∧ t.configuration = s.configuration ∧ t.iface = s.iface ∧
      t.alternate = s.alternate ∧ t.remoteWakeup = s.remoteWakeup) ∧
    (¬OnEndpoints i → i.kind = .operation → i ≠ .evReset → ∀ j : Fin 30, t.et[j.val] ≠ s.et[j.val] →
      (∃ a x, i = .completeRequest .passThrough a x) ∧ s.ctx.awaiting = .request ∧
        (∃ r, (decodeRequest s.ctx.setup = some (.setFeatureEndpoint r) ∨
          decodeRequest s.ctx.setup = some (.clearFeatureEndpoint r)) ∧ IsSlot (endpointOf r) j) ∧
        ∃ flags pending, t.et[j.val] = { s.et[j.val] with flags := flags, pending := pending })

/-- R82: every packet handed to the PHY on endpoint 0 has at most MPS0 bytes, and on another endpoint at most the endpoint's
max packet size. -/
def Obligations.PacketsFitTheirEndpoint : Prop :=
  ∀ (s t : State) (i : Instr), exec i s = .next t →
    (∀ d, .ep0Write d ∈ t.out → d.length ≤ mps0 s) ∧
    ∀ ep d, .endpointWrite ep d ∈ t.out → ∃ j, IsSlot ep j ∧ d.length ≤ (s.et[j.val]).mps.toNat

/-- UNLOCK (R143) releases one level of the guard, or faults at depth 0; only LOCK and UNLOCK change the depth, so a failed
command holds nothing. (What a depth of 0 lets take its step is GuardHoldsEvents, R141.) -/
def Obligations.UnlockReleasesOneLevel : Prop :=
  (∀ s : State,
    (s.lockDepth ≠ 0 → exec .unlock s = .next (quiet { s with lockDepth := s.lockDepth - 1 })) ∧
    (s.lockDepth = 0 → exec .unlock s = .fault (.unlockUnderflow .unlock))) ∧
  ∀ (s t : State) (i : Instr), exec i s = .next t → i ≠ .lock → i ≠ .unlock → t.lockDepth = s.lockDepth

/-! ### Bus and power events, and the thread commands beside them -/

/-- EV_POWER (R135) and, while SOF_ENABLED, EV_SOF (R137) are passed to the class; EV_SUSPEND (R136), SOF_ENABLE (R138) and
SOF_DISABLE (R139) are recorded, and nothing else changes. CONNECT (R140) attaches the device, which leaves Attached for
Powered. -/
def Obligations.PowerFramesAndConnect : Prop :=
  ∀ (s : State) (b : Bool) (f : BitVec 11),
    exec (.evPower b) s = .next (emitting [.cbPower b] s) ∧
    exec (.evSuspend b) s = .next (quiet { s with suspended := b }) ∧
    exec (.evSof f) s = .next (emitting (if s.sofEnabled then [.cbSof f] else []) s) ∧
    exec .sofEnable s = .next (emitting [.phySofEnable] { s with sofEnabled := true }) ∧
    exec .sofDisable s = .next (emitting [.phySofDisable] { s with sofEnabled := false }) ∧
    (s.lc = .attached → exec .connect s = .next (emitting [.phyConnect, .cbStateChange .powered]
      { s with lc := .powered, configuration := 0, iface := 0, alternate := 0 })) ∧
    (s.lc ≠ .attached → exec .connect s = .next (emitting [.phyConnect] s))

/-- EV_RESET (R134): the bus reset in every state. Every endpoint keeps its record, and its pending transfer and its
packet are forgotten; STALL_CAUSE, SOF_ENABLED and LOCK_DEPTH stay (R161). -/
def Obligations.BusReset : Prop :=
  ∀ s : State, ∃ t : State, exec .evReset s = .next t ∧
    (∀ i : Fin 30, t.et[i.val] = { s.et[i.val] with pending := 0, rx := none }) ∧
    t = moved .default [.cbReset]
      { s with
        ctx := Ctx.reset
        ep0Stalled := false
        et := t.et
        address := 0
        suspended := false
        remoteWakeup := false }

/-! ### The Control Transfer Engine -/

/-- EV_EP0_SETUP (R97, R148): in every state the newest setup packet is taken, the old transfer is discarded with no STALL
and no callback, and the packet goes to the class. -/
def Obligations.SetupIsAlwaysTaken : Prop :=
  ∀ (s : State) (p : SetupPacket), exec (.evEp0Setup p) s = .next (emitting [.cbRequest p]
    { s with
      ctx := { Ctx.reset with setup := p, stage := .setup, deferred := true, awaiting := .request }
      ep0Stalled := false })

/-- EV_EP0_IN (R98), the data stage goes on: the next packet, its bytes read now (R93), or the zero-length packet that
ends it (R92). Bytes that do not exist are a BufferFault (R53, R55); that it records the buffer pointer itself, which is what
a NULL or REPLY pointer out of its bounds can give, is the model's choice (notes/assumptions/12.md). -/
def Obligations.InEventSendsNextPacket : Prop :=
  ∀ s : State, s.ctx.ep0InBusy = true → s.ctx.stage = .dataIn →
    (0 < s.ctx.remaining.toNat → ¬Readable s s.ctx.ptr (min s.ctx.remaining.toNat (mps0 s)) →
      exec .evEp0In s = .fault (.bufferFault .evEp0In s.ctx.ptr
        (BitVec.ofNat 32 (min s.ctx.remaining.toNat (mps0 s))))) ∧
    (0 < s.ctx.remaining.toNat → Readable s s.ctx.ptr (min s.ctx.remaining.toNat (mps0 s)) →
      ∃ d : List Byte, d.length = min s.ctx.remaining.toNat (mps0 s) ∧ BytesAt s s.ctx.ptr d ∧
        exec .evEp0In s = .next (emitting [.ep0Write d]
          { s with ctx := { s.ctx with
              ptr := s.ctx.ptr.advance (BitVec.ofNat 32 d.length)
              remaining := BitVec.ofNat 32 (s.ctx.remaining.toNat - d.length)
              ep0InBusy := true } })) ∧
    (s.ctx.remaining = 0 → s.ctx.zlp = true →
      exec .evEp0In s = .next (emitting [.ep0Write []] { s with ctx := { s.ctx with zlp := false } }))

/-- EV_EP0_IN (R98), the data stage is done (R95), or nothing was outstanding that the event could report. -/
def Obligations.InEventEndsStage : Prop :=
  ∀ s : State,
    (s.ctx.ep0InBusy = false ∨ s.ctx.stage = .setup ∨ s.ctx.stage = .dataOut →
      exec .evEp0In s = .next (stalledWith 10 s)) ∧
    (s.ctx.ep0InBusy = true → s.ctx.stage = .dataIn → s.ctx.remaining = 0 → s.ctx.zlp = false →
      exec .evEp0In s = .next (stageEnded { s with ctx := { s.ctx with ep0InBusy := false } }))

/-- The end of a status stage in either direction (R96, R98, R99): CTX is reset, and an address SET_ADDRESS latched is
applied, told to the PHY and followed by the lifecycle, which for address 0 goes back to Default. -/
def Obligations.StatusStageEnds : Prop :=
  ∀ s : State, s.ctx.stage = .status →
    (s.ctx.ep0InBusy = true → exec .evEp0In s = .next (transferEnded s)) ∧
    (s.ctx.ep0OutArmed = true → exec (.evEp0Out []) s = .next (transferEnded s))

/-- EV_EP0_OUT (R99), a well-formed data packet: its bytes are stored through PTR and no other byte changes; the stage goes
on, or is done (R95). Bytes that do not exist are a BufferFault (R54). -/
def Obligations.OutPacketIsStored : Prop :=
  ∀ (s : State) (d : List Byte) (a : Word), Memory.wf s.mem = true →
    s.ctx.ep0OutArmed = true → s.ctx.stage = .dataOut → s.ctx.ptr = .mem a →
    d.length ≤ mps0 s → d.length ≤ s.ctx.remaining.toNat →
    d.length = mps0 s ∨ d.length = s.ctx.remaining.toNat →
    (d = [] ∨ s.admits a (BitVec.ofNat 32 d.length) = true →
      ∃ t, exec (.evEp0Out d) s = .next t ∧ Stored s t a d ∧
        (d.length < s.ctx.remaining.toNat →
          t = emitting [.ep0Read (BitVec.ofNat 16 (mps0 s))]
            { s with
              mem := t.mem
              ctx := { s.ctx with
                ptr := .mem (a + BitVec.ofNat 32 d.length)
                remaining := BitVec.ofNat 32 (s.ctx.remaining.toNat - d.length) } }) ∧
        (d.length = s.ctx.remaining.toNat →
          t = stageEnded
            { s with
              mem := t.mem
              ctx := { s.ctx with
                ptr := .mem (a + BitVec.ofNat 32 d.length)
                remaining := 0
                ep0OutArmed := false } })) ∧
    (d ≠ [] → s.admits a (BitVec.ofNat 32 d.length) = false →
      exec (.evEp0Out d) s = .fault (.bufferFault (.evEp0Out d) (.mem a) (BitVec.ofNat 32 d.length)))

/-- EV_EP0_OUT (R99), the STALLs: no packet armed that the event could report; a data packet too long, or short before the
last byte; a status packet with data. Nothing is written. -/
def Obligations.OutPacketChecks : Prop :=
  ∀ (s : State) (d : List Byte),
    (s.ctx.ep0OutArmed = false ∨ s.ctx.stage = .setup ∨ s.ctx.stage = .dataIn →
      exec (.evEp0Out d) s = .next (stalledWith 10 s)) ∧
    (s.ctx.ep0OutArmed = true → s.ctx.stage = .dataOut →
      mps0 s < d.length ∨ s.ctx.remaining.toNat < d.length ∨
        (d.length < mps0 s ∧ d.length < s.ctx.remaining.toNat) →
      exec (.evEp0Out d) s = .next (stalledWith 11 s)) ∧
    (s.ctx.ep0OutArmed = true → s.ctx.stage = .status → d ≠ [] →
      exec (.evEp0Out d) s = .next (stalledWith 11 s))

/-- R100: an IN data stage of `total` bytes on a transfer that no other event disturbs sends its packets with the sizes the
rule gives, and uses as many EV_EP0_IN events as packets before the data stage is done. -/
def Obligations.InDataStagePackets : Prop :=
  ∀ (s : State) (total : Nat) (d : List Byte),
    total ≤ s.ctx.setup.wLength.toNat → s.ctx.stage = .dataIn → s.ctx.ep0InBusy = true →
    s.ctx.direction = .send →
    s.out = [.ep0Write d] → d.length = min total (mps0 s) →
    s.ctx.remaining = BitVec.ofNat 32 (total - min total (mps0 s)) →
    (s.ctx.zlp = true ↔ 0 < total ∧ total % mps0 s = 0 ∧ total < s.ctx.setup.wLength.toNat) →
    (total ≤ mps0 s ∨ ∃ a, s.ctx.ptr = .mem (a + BitVec.ofNat 32 (mps0 s)) ∧ RangeAdmitted s a total) →
    ∃ (packets : List (List Byte)) (t : State),
      packets.map List.length = inSizes total (mps0 s) s.ctx.setup.wLength.toNat ∧
      inEvents packets.length s = some (packets.tail.map (fun p => [.ep0Write p]) ++ [t.out], t) ∧
      packets.head? = some d ∧
      (s.ctx.notify = true → t.out = [.cbRequestXferDone s.ctx.setup] ∧ t.ctx.awaiting = .xferDone) ∧
      (s.ctx.notify = false → t.out = [.ep0Read 0] ∧ t.ctx.stage = .status ∧ t.ctx.ep0OutArmed = true)

/-- R101: an OUT data stage of W bytes is completed by the packets of the sizes the rule gives and by no others. -/
def Obligations.OutDataStagePackets : Prop :=
  ∀ (s : State) (w : Nat) (a : Word) (ds : List (List Byte)),
    0 < w → w < 2 ^ 16 → s.ctx.stage = .dataOut → s.ctx.direction = .receive → s.ctx.ep0OutArmed = true →
    s.ctx.remaining = BitVec.ofNat 32 w → s.ctx.ptr = .mem a → RangeAdmitted s a w →
    ((∃ t, outEvents ds s = some t ∧ t.ctx.remaining = 0) ↔ ds.map List.length = outSizes w (mps0 s))

/-! ### Completion commands and abort -/

/-- R102: a completion of another kind than the one awaited changes no state and emits no output. -/
def Obligations.StaleCompletionsAreIgnored : Prop :=
  ∀ (s : State) (r : RequestResult) (a x : Word) (b : Bool),
    (s.ctx.awaiting ≠ .request → exec (.completeRequest r a x) s = .next (quiet s)) ∧
    (s.ctx.awaiting ≠ .xferDone → exec (.completeXferDone b) s = .next (quiet s)) ∧
    (s.ctx.awaiting ≠ .setConfiguration → exec (.completeSetConfiguration b) s = .next (quiet s)) ∧
    (s.ctx.awaiting ≠ .setInterface → exec (.completeSetInterface b) s = .next (quiet s))

/-- COMPLETE_REQUEST Send (R103, R91, R92): an IN data stage of min(size, wLength) bytes begins with its first packet; an
answer that does not fit the setup packet STALLs with RESULT_MISMATCH. -/
def Obligations.SendAnswer : Prop :=
  ∀ (s : State) (a x : Word), s.ctx.awaiting = .request →
    (s.ctx.setup.dirIn = true → s.ctx.setup.wLength ≠ 0 →
      SendsFirstPacket (.completeRequest .send a x) s
        { s with ctx := { s.ctx with awaiting := .none, notify := true } }
        (.mem a) (min x.toNat s.ctx.setup.wLength.toNat) s.ctx.setup.wLength) ∧
    (s.ctx.setup.dirIn = false ∨ s.ctx.setup.wLength = 0 →
      exec (.completeRequest .send a x) s = .next (stalledWith 6 s))

/-- COMPLETE_REQUEST Receive, Success and Failure (R103, R91). -/
def Obligations.OtherAnswers : Prop :=
  ∀ (s : State) (a x : Word), s.ctx.awaiting = .request →
    (s.ctx.setup.dirIn = false → s.ctx.setup.wLength ≠ 0 → s.ctx.setup.wLength.toNat ≤ x.toNat →
      exec (.completeRequest .receive a x) s = .next (emitting [.ep0Read (BitVec.ofNat 16 (mps0 s))]
        { s with ctx := { s.ctx with
            awaiting := .none
            ptr := .mem a
            remaining := s.ctx.setup.wLength.setWidth 32
            direction := .receive
            notify := true
            stage := .dataOut
            ep0OutArmed := true } })) ∧
    (s.ctx.setup.dirIn = true ∨ s.ctx.setup.wLength = 0 ∨ x.toNat < s.ctx.setup.wLength.toNat →
      exec (.completeRequest .receive a x) s = .next (stalledWith 6 s)) ∧
    (s.ctx.setup.wLength = 0 →
      exec (.completeRequest .success a x) s = .next (inStatusIn []
        { s with ctx := { s.ctx with awaiting := .none, notify := true, direction := .none } })) ∧
    (s.ctx.setup.wLength ≠ 0 → exec (.completeRequest .success a x) s = .next (stalledWith 6 s)) ∧
    exec (.completeRequest .failure a x) s = .next (stalledWith 1 s)

/-- COMPLETE_XFER_DONE (R104): the status stage runs opposite to the data stage (R94), or the transfer STALLs; a completion
that is not awaited is ignored (R102, the spec's decision D18). -/
def Obligations.TransferDoneAnswer : Prop :=
  ∀ s : State,
    (s.ctx.awaiting ≠ .xferDone → ∀ b, exec (.completeXferDone b) s = .next (quiet s)) ∧
    (s.ctx.awaiting = .xferDone → s.ctx.direction = .send → exec (.completeXferDone true) s = .next
      (inStatusOut { s with ctx := { s.ctx with awaiting := .none } })) ∧
    (s.ctx.awaiting = .xferDone → s.ctx.direction ≠ .send → exec (.completeXferDone true) s = .next
      (inStatusIn [] { s with ctx := { s.ctx with awaiting := .none } })) ∧
    (s.ctx.awaiting = .xferDone → exec (.completeXferDone false) s = .next (stalledWith 7 s))

/-- ABORT (R105). -/
def Obligations.AbortEndsTransfer : Prop :=
  ∀ s : State,
    (s.ctx.stage = .setup ∧ s.ctx.awaiting = .none → exec .abort s = .next (quiet s)) ∧
    (¬(s.ctx.stage = .setup ∧ s.ctx.awaiting = .none) → exec .abort s = .next (stalledWith 12 s))

/-! ### Standard requests -/

/-- R108: a request not allowed in the current lifecycle state STALLs and does nothing else; with REQ_STATE, but that an
endpoint request in Address may fail an earlier check of its operands. -/
def Obligations.RequestsNeedTheirState : Prop :=
  ∀ (s : State) (i : Instr), i.kind = .request → allowedIn i s.lc = false →
    ∃ c : Byte, exec i s = .next (stalledWith c s) ∧
      (s.lc ≠ .address → c = 3) ∧
      ((∀ r, i ≠ .getStatusEndpoint r ∧ i ≠ .clearFeatureEndpoint r ∧ i ≠ .setFeatureEndpoint r) → c = 3)

/-- GET_STATUS (R109, R72): the status word, low byte first: the device's two bits, 0 for an interface, the halt bit of a
registered endpoint, 0 for endpoint 0; an endpoint that is not there STALLs with REQ_TARGET, the wrong lifecycle state
with REQ_STATE. -/
def Obligations.StatusIsReported : Prop :=
  ∀ (s : State) (r : RequestArgs),
    (¬Addressed s →
      exec (.getStatusDevice r) s = .next (stalledWith 3 s) ∧
      exec (.getStatusInterface r) s = .next (stalledWith 3 s) ∧
      exec (.getStatusEndpoint r) s = .next (stalledWith 3 s)) ∧
    (Addressed s → Replies (.getStatusDevice r) r
      ((if s.cfg.selfPowered then 1 else 0) ||| (if s.remoteWakeup then 2 else 0)) 2 s) ∧
    (s.lc = .address → exec (.getStatusInterface r) s = .next (stalledWith 3 s)) ∧
    (s.lc = .configured → Replies (.getStatusInterface r) r 0 2 s) ∧
    (Addressed s → r.wIndex.extractLsb' 8 8 ≠ 0#8 ∨ (endpointOf r).extractLsb' 4 3 ≠ 0#3 →
      exec (.getStatusEndpoint r) s = .next (stalledWith 4 s)) ∧
    (Addressed s → r.wIndex.extractLsb' 8 8 = 0#8 → endpointOf r = 0x00 ∨ endpointOf r = 0x80 →
      Replies (.getStatusEndpoint r) r 0 2 s) ∧
    ∀ i, r.wIndex.extractLsb' 8 8 = 0#8 → IsSlot (endpointOf r) i →
      (s.lc = .address → exec (.getStatusEndpoint r) s = .next (stalledWith 3 s)) ∧
      (s.lc = .configured → (s.et[i.val]).valid = false →
        exec (.getStatusEndpoint r) s = .next (stalledWith 4 s)) ∧
      (s.lc = .configured → (s.et[i.val]).valid = true →
        Replies (.getStatusEndpoint r) r (if (s.et[i.val]).flags.getLsbD 2 then 1 else 0) 2 s)

/-- SET_FEATURE and CLEAR_FEATURE (R110). For Device, DEVICE_REMOTE_WAKEUP is written. For Endpoint, ENDPOINT_HALT of a
registered endpoint is set, which cancels its transfer (R120), or cleared, which resets its toggle (R121). Then the status
stage begins. Anything else STALLs, with the cause of the first check that fails. -/
def Obligations.FeatureIsSwitched : Prop :=
  ∀ (s : State) (r : RequestArgs),
    (¬Addressed s → exec (.setFeatureDevice r) s = .next (stalledWith 3 s) ∧
      exec (.clearFeatureDevice r) s = .next (stalledWith 3 s)) ∧
    (Addressed s → r.wValue ≠ 1 → exec (.setFeatureDevice r) s = .next (stalledWith 2 s) ∧
      exec (.clearFeatureDevice r) s = .next (stalledWith 2 s)) ∧
    (Addressed s → r.wValue = 1 → r.wLength ≠ 0 → exec (.setFeatureDevice r) s = .next (stalledWith 6 s) ∧
      exec (.clearFeatureDevice r) s = .next (stalledWith 6 s)) ∧
    (Addressed s → r.wValue = 1 → r.wLength = 0 →
      exec (.setFeatureDevice r) s = .next (resolved [] { s with remoteWakeup := true }) ∧
      exec (.clearFeatureDevice r) s = .next (resolved [] { s with remoteWakeup := false })) ∧
    (¬Addressed s → exec (.setFeatureEndpoint r) s = .next (stalledWith 3 s) ∧
      exec (.clearFeatureEndpoint r) s = .next (stalledWith 3 s)) ∧
    (Addressed s → r.wValue ≠ 0 → exec (.setFeatureEndpoint r) s = .next (stalledWith 2 s) ∧
      exec (.clearFeatureEndpoint r) s = .next (stalledWith 2 s)) ∧
    (Addressed s → r.wValue = 0 → r.wIndex.extractLsb' 8 8 ≠ 0#8 ∨ NoSlot (endpointOf r) →
      exec (.setFeatureEndpoint r) s = .next (stalledWith 4 s) ∧
      exec (.clearFeatureEndpoint r) s = .next (stalledWith 4 s)) ∧
    ∀ i, r.wValue = 0 → r.wIndex.extractLsb' 8 8 = 0#8 → IsSlot (endpointOf r) i →
      (s.lc = .address → exec (.setFeatureEndpoint r) s = .next (stalledWith 3 s) ∧
        exec (.clearFeatureEndpoint r) s = .next (stalledWith 3 s)) ∧
      (s.lc = .configured → (s.et[i.val]).valid = false →
        exec (.setFeatureEndpoint r) s = .next (stalledWith 4 s) ∧
        exec (.clearFeatureEndpoint r) s = .next (stalledWith 4 s)) ∧
      (s.lc = .configured → (s.et[i.val]).valid = true → r.wLength ≠ 0 →
        exec (.setFeatureEndpoint r) s = .next (stalledWith 6 s) ∧
        exec (.clearFeatureEndpoint r) s = .next (stalledWith 6 s)) ∧
      (s.lc = .configured → (s.et[i.val]).valid = true → r.wLength = 0 →
        exec (.setFeatureEndpoint r) s = .next (resolved
          (if 0 < (s.et[i.val]).pending.toNat then
            [.endpointStall (endpointOf r), .endpointAbort (endpointOf r)]
          else [.endpointStall (endpointOf r)])
          (withEp i { s.et[i.val] with pending := 0, flags := (s.et[i.val]).flags ||| 4#8 } s)) ∧
        exec (.clearFeatureEndpoint r) s = .next (resolved [.endpointUnstall (endpointOf r)]
          (withEp i { s.et[i.val] with flags := (s.et[i.val]).flags &&& ~~~4#8 } s)))

/-- SET_ADDRESS (R111): the address is latched, not applied, and the status stage begins. -/
def Obligations.AddressIsLatched : Prop :=
  ∀ (s : State) (r : RequestArgs),
    (s.lc ≠ .default → s.lc ≠ .address → exec (.setAddress r) s = .next (stalledWith 3 s)) ∧
    (s.lc = .default ∨ s.lc = .address → r.wValue.toNat ≤ 127 → r.wLength = 0 →
      exec (.setAddress r) s = .next (resolved []
        { s with ctx := { s.ctx with
            pendAddrValid := true
            pendAddr := BitVec.ofNat 7 r.wValue.toNat } })) ∧
    (s.lc = .default ∨ s.lc = .address → 127 < r.wValue.toNat → exec (.setAddress r) s = .next (stalledWith 4 s)) ∧
    (s.lc = .default ∨ s.lc = .address → r.wValue.toNat ≤ 127 → r.wLength ≠ 0 → exec (.setAddress r) s = .next (stalledWith 6 s))

/-- GET_DESCRIPTOR (R112): the descriptor an accessor returns is sent, at most wLength bytes; an unknown type or string index
STALLs with REQ_UNSUPPORTED, an absent descriptor with DESC_ABSENT. Bytes that do not exist are a BufferFault (R53); that it
records GET_DESCRIPTOR where the request is executed by itself, and COMPLETE_REQUEST in a run, is the model's reading
(notes/assumptions/8.md). -/
def Obligations.DescriptorIsSent : Prop :=
  ∀ (s : State) (r : RequestArgs) (t n : Byte), r.wValue = t ++ n →
    ∀ answer : Option Descriptor,
      ((t = 1 ∧ answer = s.cfg.descDevice) ∨
       (t = 2 ∧ answer = descriptorAt n s.cfg.descConfiguration) ∨
       (t = 3 ∧ n.toNat ≤ 5 ∧ answer = descriptorAt n s.cfg.descString) →
        (∀ d, answer = some d → r.dirIn = true → r.wLength ≠ 0 →
          SendsFirstPacket (.getDescriptor r) s { s with ctx := { s.ctx with notify := false } }
            (.mem d.addr) (min d.len.toNat r.wLength.toNat) r.wLength) ∧
        (∀ d, answer = some d → r.dirIn = false ∨ r.wLength = 0 →
          exec (.getDescriptor r) s = .next (stalledWith 6 s)) ∧
        (answer = none → exec (.getDescriptor r) s = .next (stalledWith 5 s))) ∧
      ((t ≠ 1 ∧ t ≠ 2 ∧ t ≠ 3) ∨ (t = 3 ∧ 5 < n.toNat) →
        exec (.getDescriptor r) s = .next (stalledWith 2 s))

/-- GET_CONFIGURATION (R113) and GET_INTERFACE (R116): one byte. -/
def Obligations.SelectionIsReported : Prop :=
  ∀ (s : State) (r : RequestArgs),
    (Addressed s → Replies (.getConfiguration r) r s.configuration 1 s) ∧
    (¬Addressed s → exec (.getConfiguration r) s = .next (stalledWith 3 s)) ∧
    (s.lc = .configured → Replies (.getInterface r) r s.alternate 1 s) ∧
    (s.lc ≠ .configured → exec (.getInterface r) s = .next (stalledWith 3 s))

/-- SET_CONFIGURATION (R114) and SET_INTERFACE (R117): the change is handed to the class; a data stage or a wrong lifecycle
state STALLs. -/
def Obligations.SelectionIsDelegated : Prop :=
  ∀ (s : State) (r : RequestArgs),
    (Addressed s → exec (.setConfiguration r) s = .next
      (if r.wLength = 0 then
        emitting [.cbSetConfiguration (r.wValue.extractLsb' 0 8)]
          { s with ctx := { s.ctx with awaiting := .setConfiguration } }
      else stalledWith 6 s)) ∧
    (¬Addressed s → exec (.setConfiguration r) s = .next (stalledWith 3 s)) ∧
    (s.lc = .configured → exec (.setInterface r) s = .next
      (if r.wLength = 0 then
        emitting [.cbSetInterface (r.wIndex.extractLsb' 0 8) (r.wValue.extractLsb' 0 8)]
          { s with ctx := { s.ctx with awaiting := .setInterface } }
      else stalledWith 6 s)) ∧
    (s.lc ≠ .configured → exec (.setInterface r) s = .next (stalledWith 3 s))

/-- COMPLETE_SET_CONFIGURATION (R115, R132) and COMPLETE_SET_INTERFACE (R118). The awaited request had no data stage
(Safety.AskedWithoutData, an invariant). -/
def Obligations.SelectionAnswers : Prop :=
  (∀ (s : State) (c : Byte), s.ctx.awaiting = .setConfiguration → c = s.ctx.setup.b2 →
      AskedWithoutData s → s.lc = .address ∨ s.lc = .configured →
      (c ≠ 0 → exec (.completeSetConfiguration true) s = .next
        (resolved (if s.lc = .configured then [] else [.cbStateChange .configured])
          { s with
            ctx := { s.ctx with awaiting := .none }
            configuration := c
            iface := 0
            alternate := 0
            lc := .configured })) ∧
      (c = 0 → s.lc = .configured → exec (.completeSetConfiguration true) s = .next
        (resolved [.cbStateChange .address]
          { s with
            ctx := { s.ctx with awaiting := .none }
            configuration := 0
            iface := 0
            alternate := 0
            lc := .address })) ∧
      (c = 0 → s.lc = .address → exec (.completeSetConfiguration true) s = .next
        (resolved [] { s with ctx := { s.ctx with awaiting := .none }, iface := 0, alternate := 0 })) ∧
      exec (.completeSetConfiguration false) s = .next (stalledWith 8 s)) ∧
  ∀ s : State, s.ctx.awaiting = .setInterface → AskedWithoutData s →
    exec (.completeSetInterface true) s = .next (resolved []
      { s with
        ctx := { s.ctx with awaiting := .none }
        iface := s.ctx.setup.b4
        alternate := s.ctx.setup.b2 }) ∧
    exec (.completeSetInterface false) s = .next (stalledWith 9 s)

/-! ### The Endpoint Table -/

/-- R39: a record is VALID exactly from a successful EP_ADD of its endpoint to the EP_REMOVE of it, whatever is executed
between; the operations on an unregistered endpoint fail; an unregistered record holds reset values, at the unit reset and
from one step to the next. -/
def Obligations.ValidFromAddToRemove : Prop :=
  (∀ j : Fin 30, State.reset.et[j.val] = unregistered) ∧
  ∀ (s t : State) (i : Instr) (j : Fin 30), exec i s = .next t →
    ((s.et[j.val]).valid = false →
      ((t.et[j.val]).valid = true ↔
        ∃ ep m ty c, i = .epAdd ep m ty c ∧ IsSlot ep j ∧ t.ret = some (.bool true))) ∧
    ((s.et[j.val]).valid = true → ((t.et[j.val]).valid = false ↔ ∃ ep, i = .epRemove ep ∧ IsSlot ep j)) ∧
    (((s.et[j.val]).valid = false → s.et[j.val] = unregistered) →
      (t.et[j.val]).valid = false → t.et[j.val] = unregistered) ∧
    ∀ ep, IsSlot ep j → (s.et[j.val]).valid = false →
      (i = .epRemove ep ∨ i = .epStall ep ∨ i = .epUnstall ep ∨ i = .readStart ep ∨ (∃ a x, i = .write ep a x) →
        t.ret = some (.bool false)) ∧
      ((∃ a x, i = .readFinish ep a x) → t.ret = some (.sized false 0))

/-- EP_ADD (R122): a record is installed where the address and type are valid, the endpoint is not yet registered and the
PHY accepts it; a PHY that refuses leaves no record; otherwise nothing happens. The table is full only where every address
is registered. That the PHY's answer is the next of a list or a free value, and that asking uses it up, is the model's form of
the draw (notes/assumptions/5.md). -/
def Obligations.EndpointAdd : Prop :=
  ∀ (s : State) (ep : Byte) (m : Half) (t : Byte) (c : Word),
    (∀ i, IsSlot ep i → t.toNat = 1 ∨ t.toNat = 2 ∨ t.toNat = 3 → (s.et[i.val]).valid = false →
      exec (.epAdd ep m t c) s = .next (answering [.endpointAdd ep m (t.extractLsb' 0 2)] (phyAddOk s)
        { (if phyAddOk s then
            withEp i { valid := true, cb := c, mps := m, flags := t, pending := 0, rx := none } s
          else s) with
          phyAnswers := s.phyAnswers.tail
          draws := s.draws + 1 })) ∧
    (NoSlot ep ∨ ¬(t.toNat = 1 ∨ t.toNat = 2 ∨ t.toNat = 3) ∨
        (∃ i, IsSlot ep i ∧ (s.et[i.val]).valid = true) →
      exec (.epAdd ep m t c) s = .next (answering [] false s))

/-- EP_REMOVE (R123) and EP_STALL (R124, R120). That each cancels the endpoint's transfer without telling the class is the
spec's decision D38. -/
def Obligations.EndpointRemoveAndStall : Prop :=
  ∀ (s : State) (ep : Byte),
    (∀ i, IsSlot ep i → (s.et[i.val]).valid = true →
      exec (.epRemove ep) s = .next (answering
        (if 0 < (s.et[i.val]).pending.toNat then [.endpointAbort ep, .endpointRemove ep]
        else [.endpointRemove ep]) true
        (withEp i { valid := false, cb := 0, mps := 0, flags := 0, pending := 0, rx := none } s)) ∧
      exec (.epStall ep) s = .next (answering
        (if 0 < (s.et[i.val]).pending.toNat then [.endpointStall ep, .endpointAbort ep]
        else [.endpointStall ep]) true
        (withEp i { s.et[i.val] with pending := 0, flags := (s.et[i.val]).flags ||| 4#8 } s))) ∧
    (Absent ep s → exec (.epRemove ep) s = .next (answering [] false s) ∧
      exec (.epStall ep) s = .next (answering [] false s))

/-- EP_UNSTALL (R125, R121): in either case, stalled or not, the toggle is reset, STALLED is 0 and true is returned. -/
def Obligations.EndpointUnstall : Prop :=
  ∀ (s : State) (ep : Byte),
    (∀ i, IsSlot ep i → (s.et[i.val]).valid = true →
      exec (.epUnstall ep) s = .next (answering [.endpointUnstall ep] true
        (withEp i { s.et[i.val] with flags := (s.et[i.val]).flags &&& ~~~4#8 } s))) ∧
    (Absent ep s → exec (.epUnstall ep) s = .next (answering [] false s))

/-- READ_START (R126). -/
def Obligations.ReadStart : Prop :=
  ∀ (s : State) (ep : Byte),
    (∀ i, ¬In ep → IsSlot ep i → (s.et[i.val]).valid = true → (s.et[i.val]).flags.getLsbD 2 = false →
      (s.et[i.val]).pending = 0 →
      exec (.readStart ep) s = .next (answering [.endpointRead ep (s.et[i.val]).mps] true
        (withEp i { s.et[i.val] with pending := 1, rx := none } s))) ∧
    (In ep ∨ Absent ep s ∨
        (∃ i, IsSlot ep i ∧ ((s.et[i.val]).flags.getLsbD 2 = true ∨ (s.et[i.val]).pending ≠ 0)) →
      exec (.readStart ep) s = .next (answering [] false s))

/-- READ_FINISH (R127): the completed packet is copied, at most max_size bytes, and no other byte changes;
bytes that do not exist are a BufferFault (R54); anything else the rule checks gives (false, 0). -/
def Obligations.ReadFinish : Prop :=
  ∀ (s : State) (ep : Byte) (a x : Word), Memory.wf s.mem = true →
    (∀ i d, ¬In ep → IsSlot ep i → (s.et[i.val]).valid = true → (s.et[i.val]).pending = 0 →
      (s.et[i.val]).mps.toNat ≤ x.toNat → (s.et[i.val]).rx = some d →
      d.take x.toNat = [] ∨ s.admits a (BitVec.ofNat 32 (min d.length x.toNat)) = true →
      ∃ t, exec (.readFinish ep a x) s = .next t ∧ Stored s t a (d.take x.toNat) ∧
        t = answeringSized true (BitVec.ofNat 32 (min d.length x.toNat))
          { withEp i { s.et[i.val] with rx := none } s with mem := t.mem }) ∧
    (∀ i d, ¬In ep → IsSlot ep i → (s.et[i.val]).valid = true → (s.et[i.val]).pending = 0 →
      (s.et[i.val]).mps.toNat ≤ x.toNat → (s.et[i.val]).rx = some d → d.take x.toNat ≠ [] →
      s.admits a (BitVec.ofNat 32 (min d.length x.toNat)) = false →
      exec (.readFinish ep a x) s = .fault
        (.bufferFault (.readFinish ep a x) (.mem a) (BitVec.ofNat 32 (min d.length x.toNat)))) ∧
    (In ep ∨ Absent ep s ∨
        (∃ i, IsSlot ep i ∧ (x.toNat < (s.et[i.val]).mps.toNat ∨ (s.et[i.val]).pending ≠ 0 ∨
          (s.et[i.val]).rx = none)) →
      exec (.readFinish ep a x) s = .next (answeringSized false 0 s))

/-- WRITE (R128): one packet is handed to the PHY, its bytes read now; bytes that do not exist are a BufferFault (R53);
anything else the rule checks gives false. -/
def Obligations.WritePacket : Prop :=
  ∀ (s : State) (ep : Byte) (a x : Word),
    (∀ i, In ep → IsSlot ep i → (s.et[i.val]).valid = true → (s.et[i.val]).flags.getLsbD 2 = false →
      (s.et[i.val]).pending = 0 → x.toNat ≤ (s.et[i.val]).mps.toNat → Readable s (.mem a) x.toNat →
      ∃ d, d.length = x.toNat ∧ BytesAt s (.mem a) d ∧
        exec (.write ep a x) s = .next (answering [.endpointWrite ep d] true
          (withEp i { s.et[i.val] with pending := 1 } s))) ∧
    (∀ i, In ep → IsSlot ep i → (s.et[i.val]).valid = true → (s.et[i.val]).flags.getLsbD 2 = false →
      (s.et[i.val]).pending = 0 → x.toNat ≤ (s.et[i.val]).mps.toNat → ¬Readable s (.mem a) x.toNat →
      exec (.write ep a x) s = .fault (.bufferFault (.write ep a x) (.mem a) x)) ∧
    (¬In ep ∨ Absent ep s ∨
        (∃ i, IsSlot ep i ∧ ((s.et[i.val]).mps.toNat < x.toNat ∨ (s.et[i.val]).flags.getLsbD 2 = true ∨
          (s.et[i.val]).pending ≠ 0)) →
      exec (.write ep a x) s = .next (answering [] false s))

/-- EV_OUT (R129) and EV_IN (R130): the completed transfer is reported; any other event is dropped. -/
def Obligations.EndpointEvents : Prop :=
  ∀ (s : State) (ep : Byte) (d : List Byte),
    (∀ i, IsSlot ep i → (s.et[i.val]).valid = true → (s.et[i.val]).pending ≠ 0 →
      (¬In ep → exec (.evOut ep d) s = .next (emitting [.cbEndpoint (s.et[i.val]).cb ep]
        (withEp i { s.et[i.val] with pending := 0, rx := some d } s))) ∧
      (In ep → exec (.evIn ep) s = .next (emitting [.cbEndpoint (s.et[i.val]).cb ep]
        (withEp i { s.et[i.val] with pending := 0 } s)))) ∧
    (In ep ∨ Absent ep s ∨ (∃ i, IsSlot ep i ∧ (s.et[i.val]).pending = 0) →
      exec (.evOut ep d) s = .next (quiet s)) ∧
    (¬In ep ∨ Absent ep s ∨ (∃ i, IsSlot ep i ∧ (s.et[i.val]).pending = 0) →
      exec (.evIn ep) s = .next (quiet s))

/-- R119: a command that returns false, or (false, 0), changes no state, and emits nothing but the `phy.endpoint_add` of an
EP_ADD the PHY refused. (The draw the PHY's refusal used is counted, notes/assumptions/5.md.) -/
def Obligations.FalseReturnChangesNothing : Prop :=
  ∀ (s t : State) (i : Instr), exec i s = .next t → t.ret = some (.bool false) ∨ t.ret = some (.sized false 0) →
    ReturnsValue i ∧
    t = { s with phyAnswers := t.phyAnswers, draws := t.draws, out := t.out, ret := t.ret } ∧
    (t.out = [] ∨ ∃ ep m ty c, i = .epAdd ep m ty c ∧ t.out = [.endpointAdd ep m (ty.extractLsb' 0 2)])

/-- R131: after CLEAR_FEATURE(ENDPOINT_HALT) of a stalled endpoint its STALLED bit is 0, its toggle is reset, and PENDING is 0,
because the stall cancelled its transfer (Safety.StalledIdle, an invariant); so the next WRITE of a packet that fits, or
READ_START, succeeds. -/
def Obligations.ClearHaltRestoresEndpoint : Prop :=
  ∀ (s t : State) (r : RequestArgs) (i : Fin 30) (a x : Word),
    StalledIdle s → IsSlot (endpointOf r) i → s.lc = .configured → (s.et[i.val]).valid = true →
    (s.et[i.val]).flags.getLsbD 2 = true →
    r.wValue = 0 → r.wIndex.extractLsb' 8 8 = 0#8 → r.wLength = 0 →
    exec (.clearFeatureEndpoint r) s = .next t →
    .endpointUnstall (endpointOf r) ∈ t.out ∧ (t.et[i.val]).flags.getLsbD 2 = false ∧
    (t.et[i.val]).pending = 0 ∧
    (In (endpointOf r) → x.toNat ≤ (s.et[i.val]).mps.toNat → Readable s (.mem a) x.toNat →
      ∃ u, exec (.write (endpointOf r) a x) t = .next u ∧ u.ret = some (.bool true)) ∧
    (¬In (endpointOf r) → ∃ u, exec (.readStart (endpointOf r)) t = .next u ∧ u.ret = some (.bool true))

/-! ### The guard -/

/-- LOCK (R142) and ASSERT_LOCKED (R144): their effects and their faults. (UNLOCK: UnlockReleasesOneLevel.) -/
def Obligations.GuardCommands : Prop :=
  ∀ s : State,
    (s.lockDepth.toNat < 2 ^ 32 - 1 → exec .lock s = .next (quiet { s with lockDepth := s.lockDepth + 1 })) ∧
    (s.lockDepth.toNat = 2 ^ 32 - 1 → exec .lock s = .fault (.guardOverflow .lock)) ∧
    (s.lockDepth ≠ 0 → exec (.assertLocked .thread) s = .next (quiet s)) ∧
    (s.lockDepth = 0 →
      exec (.assertLocked .thread) s = .fault (.guardNotHeld (.assertLocked .thread))) ∧
    exec (.assertLocked .interrupt) s = .next (quiet s)
end

