-- ==== Sys2Proof/Laws/Encoding.lean ====
section
/-! SUPPORT. The byte and word helpers of the two decoders: taking a word apart and putting it together again, and the
fields of a standard request's setup packet. -/

namespace Sys2Proof

/-! ### Bytes and words -/

@[simp] theorem byteAt_le16_lo (lo hi : Byte) : byteAt (le16 lo hi) 0 = lo := by
  apply BitVec.eq_of_getLsbD_eq
  intro i h
  simp only [byteAt, le16, BitVec.getLsbD_extractLsb', BitVec.getLsbD_append]
  simp [h]

@[simp] theorem byteAt_le16_hi (lo hi : Byte) : byteAt (le16 lo hi) 1 = hi := by
  apply BitVec.eq_of_getLsbD_eq
  intro i h
  simp only [byteAt, le16, BitVec.getLsbD_extractLsb', BitVec.getLsbD_append]
  have : ¬ (8 * 1 + i < 8) := by omega
  simp [h, this]

@[simp] theorem le16_byteAt (v : Half) : le16 (byteAt v 0) (byteAt v 1) = v := by
  apply BitVec.eq_of_getLsbD_eq
  intro i h
  simp only [byteAt, le16, BitVec.getLsbD_extractLsb', BitVec.getLsbD_append]
  by_cases h8 : i < 8
  · simp [h8]
  · have e : 8 * 1 + (i - 8) = i := by omega
    have h9 : i - 8 < 8 := by omega
    simp [h8, e, h9]

theorem le16_toNat (lo hi : Byte) : (le16 lo hi).toNat = lo.toNat + 256 * hi.toNat := by
  have := lo.isLt
  simp only [le16, BitVec.toNat_append]
  rw [← Nat.shiftLeft_add_eq_or_of_lt this, Nat.shiftLeft_eq]
  omega

@[simp] theorem le32_byteAt (v : Word) : le32 (byteAt v 0) (byteAt v 1) (byteAt v 2) (byteAt v 3) = v := by
  apply BitVec.eq_of_getLsbD_eq
  intro i h
  simp only [byteAt, le32, BitVec.getLsbD_extractLsb', BitVec.getLsbD_append]
  by_cases h8 : i < 8
  · have : i < 16 := by omega
    simp [h8, this]
  · by_cases h16 : i < 16
    · have e : 8 * 1 + (i - 8) = i := by omega
      have h9 : i - 8 < 8 := by omega
      simp [h8, h16, e, h9]
    · by_cases h24 : i < 24
      · have e : 8 * 2 + (i - 16) = i := by omega
        have h9 : i - 16 < 8 := by omega
        have h10 : i - (8 + 8) < 8 := by omega
        simp [h16, e, h9]
      · have e : 8 * 3 + (i - 24) = i := by omega
        have h9 : i - 24 < 8 := by omega
        have h10 : ¬ i - 16 < 8 := by omega
        have h11 : i - 16 - 8 = i - 24 := by omega
        simp [h16, h10, h11, e, h9]

theorem byteAt_le32 (x0 x1 x2 x3 : Byte) :
    byteAt (le32 x0 x1 x2 x3) 0 = x0 ∧ byteAt (le32 x0 x1 x2 x3) 1 = x1 ∧
    byteAt (le32 x0 x1 x2 x3) 2 = x2 ∧ byteAt (le32 x0 x1 x2 x3) 3 = x3 := by
  refine ⟨?_, ?_, ?_, ?_⟩ <;> apply BitVec.eq_of_getLsbD_eq <;> intro i h <;>
    simp only [byteAt, le32, BitVec.getLsbD_extractLsb', BitVec.getLsbD_append]
  · have : i < 16 := by omega
    simp [h, this]
  · have a : 8 * 1 + i < 8 + 8 := by omega
    have b : ¬ 8 * 1 + i < 8 := by omega
    have c : 8 * 1 + i - 8 = i := by omega
    simp [h, a, b, c]
  · have a : ¬ 8 * 2 + i < 8 + 8 := by omega
    have b : 8 * 2 + i - (8 + 8) = i := by omega
    simp only [a, b, h]; simp
  · have a : ¬ 8 * 3 + i < 8 + 8 := by omega
    have b : 8 * 3 + i - (8 + 8) = 8 + i := by omega
    have c : ¬ 8 + i < 8 := by omega
    have d : 8 + i - 8 = i := by omega
    simp only [a, b, c, d, h]; simp

/-! ### The setup packet of a standard request -/

theorem requestPacket_rtype (q : Byte) (k : BitVec 5) (r : RequestArgs) : (requestPacket q k r).rtype = 0 := by
  apply BitVec.eq_of_getLsbD_eq
  intro i h
  simp only [requestPacket, SetupPacket.rtype, BitVec.getLsbD_extractLsb', BitVec.getLsbD_append]
  have a : ¬ 5 + i < 5 := by omega
  have b : 5 + i < 2 + 5 := by omega
  simp [a, b]

theorem requestPacket_args (q : Byte) (k : BitVec 5) (r : RequestArgs) : (requestPacket q k r).args = r := by
  have hd : (requestPacket q k r).dirIn = r.dirIn := by
    simp only [requestPacket, SetupPacket.dirIn, BitVec.getLsbD_append]; simp
  obtain ⟨d, v, x, l⟩ := r
  simp only [SetupPacket.args, hd]
  simp [requestPacket, SetupPacket.wValue, SetupPacket.wIndex, SetupPacket.wLength]

/-- The key of a standard request is its code over its recipient, whatever the direction (R83). -/
theorem requestPacket_key (q : Byte) (k : BitVec 5) (r : RequestArgs) :
    (requestPacket q k r).key = le16 (k.setWidth 8) q := by
  apply BitVec.eq_of_getLsbD_eq
  intro i h
  have hm : ∀ j : Fin 16, (0xFF7F#16).getLsbD j.val = decide (j.val ≠ 7) := by decide
  have hmi := hm ⟨i, h⟩
  simp only [SetupPacket.key, requestPacket, le16, BitVec.getLsbD_and, BitVec.getLsbD_append, BitVec.getLsbD_setWidth]
  rw [hmi]
  by_cases h8 : i < 8
  · by_cases h5 : i < 5
    · have : i < 7 := by omega
      have h7 : i ≠ 7 := by omega
      have h9 : i < 2 + 5 := by omega
      simp [h8, h5, h9, h7]
    · have hk : k.getLsbD i = false := BitVec.getLsbD_of_ge _ _ (by omega)
      by_cases h7 : i = 7
      · simp [h7, BitVec.getLsbD_of_ge]
      · have : i < 2 + 5 := by omega
        simp [h8, h5, h7, hk, this]
  · have h7 : i ≠ 7 := by omega
    simp [h8, h7]

end Sys2Proof
end

