-- ==== Sys2Proof/Laws/State.lean ====
section
/-! SUPPORT. What each named update of State leaves in each field, so that no later proof unfolds a record update. -/

namespace Sys2Proof.Machine

/-! ### begin -/

@[simp] theorem begin_lc (s : State) :
    (s.begin).lc = s.lc := rfl

@[simp] theorem begin_address (s : State) :
    (s.begin).address = s.address := rfl

@[simp] theorem begin_configuration (s : State) :
    (s.begin).configuration = s.configuration := rfl

@[simp] theorem begin_iface (s : State) :
    (s.begin).iface = s.iface := rfl

@[simp] theorem begin_alternate (s : State) :
    (s.begin).alternate = s.alternate := rfl

@[simp] theorem begin_remoteWakeup (s : State) :
    (s.begin).remoteWakeup = s.remoteWakeup := rfl

@[simp] theorem begin_suspended (s : State) :
    (s.begin).suspended = s.suspended := rfl

@[simp] theorem begin_sofEnabled (s : State) :
    (s.begin).sofEnabled = s.sofEnabled := rfl

@[simp] theorem begin_ctx (s : State) :
    (s.begin).ctx = s.ctx := rfl

@[simp] theorem begin_ep0Stalled (s : State) :
    (s.begin).ep0Stalled = s.ep0Stalled := rfl

@[simp] theorem begin_stallCause (s : State) :
    (s.begin).stallCause = s.stallCause := rfl

@[simp] theorem begin_et (s : State) :
    (s.begin).et = s.et := rfl

@[simp] theorem begin_lockDepth (s : State) :
    (s.begin).lockDepth = s.lockDepth := rfl

@[simp] theorem begin_mem (s : State) :
    (s.begin).mem = s.mem := rfl

@[simp] theorem begin_tbm (s : State) :
    (s.begin).tbm = s.tbm := rfl

@[simp] theorem begin_cfg (s : State) :
    (s.begin).cfg = s.cfg := rfl

@[simp] theorem begin_inputs (s : State) :
    (s.begin).inputs = s.inputs := rfl

@[simp] theorem begin_phyAnswers (s : State) :
    (s.begin).phyAnswers = s.phyAnswers := rfl

@[simp] theorem begin_draws (s : State) :
    (s.begin).draws = s.draws := rfl

@[simp] theorem begin_out (s : State) :
    (s.begin).out = [] := rfl

@[simp] theorem begin_ret (s : State) :
    (s.begin).ret = none := rfl

/-! ### emit -/

@[simp] theorem emit_lc (s : State) (o : Output) :
    (s.emit o).lc = s.lc := rfl

@[simp] theorem emit_address (s : State) (o : Output) :
    (s.emit o).address = s.address := rfl

@[simp] theorem emit_configuration (s : State) (o : Output) :
    (s.emit o).configuration = s.configuration := rfl

@[simp] theorem emit_iface (s : State) (o : Output) :
    (s.emit o).iface = s.iface := rfl

@[simp] theorem emit_alternate (s : State) (o : Output) :
    (s.emit o).alternate = s.alternate := rfl

@[simp] theorem emit_remoteWakeup (s : State) (o : Output) :
    (s.emit o).remoteWakeup = s.remoteWakeup := rfl

@[simp] theorem emit_suspended (s : State) (o : Output) :
    (s.emit o).suspended = s.suspended := rfl

@[simp] theorem emit_sofEnabled (s : State) (o : Output) :
    (s.emit o).sofEnabled = s.sofEnabled := rfl

@[simp] theorem emit_ctx (s : State) (o : Output) :
    (s.emit o).ctx = s.ctx := rfl

@[simp] theorem emit_ep0Stalled (s : State) (o : Output) :
    (s.emit o).ep0Stalled = s.ep0Stalled := rfl

@[simp] theorem emit_stallCause (s : State) (o : Output) :
    (s.emit o).stallCause = s.stallCause := rfl

@[simp] theorem emit_et (s : State) (o : Output) :
    (s.emit o).et = s.et := rfl

@[simp] theorem emit_lockDepth (s : State) (o : Output) :
    (s.emit o).lockDepth = s.lockDepth := rfl

@[simp] theorem emit_mem (s : State) (o : Output) :
    (s.emit o).mem = s.mem := rfl

@[simp] theorem emit_tbm (s : State) (o : Output) :
    (s.emit o).tbm = s.tbm := rfl

@[simp] theorem emit_cfg (s : State) (o : Output) :
    (s.emit o).cfg = s.cfg := rfl

@[simp] theorem emit_inputs (s : State) (o : Output) :
    (s.emit o).inputs = s.inputs := rfl

@[simp] theorem emit_phyAnswers (s : State) (o : Output) :
    (s.emit o).phyAnswers = s.phyAnswers := rfl

@[simp] theorem emit_draws (s : State) (o : Output) :
    (s.emit o).draws = s.draws := rfl

@[simp] theorem emit_out (s : State) (o : Output) :
    (s.emit o).out = s.out ++ [o] := rfl

@[simp] theorem emit_ret (s : State) (o : Output) :
    (s.emit o).ret = s.ret := rfl

/-! ### answer -/

@[simp] theorem answer_lc (s : State) (ok : Bool) :
    (s.answer ok).lc = s.lc := rfl

@[simp] theorem answer_address (s : State) (ok : Bool) :
    (s.answer ok).address = s.address := rfl

@[simp] theorem answer_configuration (s : State) (ok : Bool) :
    (s.answer ok).configuration = s.configuration := rfl

@[simp] theorem answer_iface (s : State) (ok : Bool) :
    (s.answer ok).iface = s.iface := rfl

@[simp] theorem answer_alternate (s : State) (ok : Bool) :
    (s.answer ok).alternate = s.alternate := rfl

@[simp] theorem answer_remoteWakeup (s : State) (ok : Bool) :
    (s.answer ok).remoteWakeup = s.remoteWakeup := rfl

@[simp] theorem answer_suspended (s : State) (ok : Bool) :
    (s.answer ok).suspended = s.suspended := rfl

@[simp] theorem answer_sofEnabled (s : State) (ok : Bool) :
    (s.answer ok).sofEnabled = s.sofEnabled := rfl

@[simp] theorem answer_ctx (s : State) (ok : Bool) :
    (s.answer ok).ctx = s.ctx := rfl

@[simp] theorem answer_ep0Stalled (s : State) (ok : Bool) :
    (s.answer ok).ep0Stalled = s.ep0Stalled := rfl

@[simp] theorem answer_stallCause (s : State) (ok : Bool) :
    (s.answer ok).stallCause = s.stallCause := rfl

@[simp] theorem answer_et (s : State) (ok : Bool) :
    (s.answer ok).et = s.et := rfl

@[simp] theorem answer_lockDepth (s : State) (ok : Bool) :
    (s.answer ok).lockDepth = s.lockDepth := rfl

@[simp] theorem answer_mem (s : State) (ok : Bool) :
    (s.answer ok).mem = s.mem := rfl

@[simp] theorem answer_tbm (s : State) (ok : Bool) :
    (s.answer ok).tbm = s.tbm := rfl

@[simp] theorem answer_cfg (s : State) (ok : Bool) :
    (s.answer ok).cfg = s.cfg := rfl

@[simp] theorem answer_inputs (s : State) (ok : Bool) :
    (s.answer ok).inputs = s.inputs := rfl

@[simp] theorem answer_phyAnswers (s : State) (ok : Bool) :
    (s.answer ok).phyAnswers = s.phyAnswers := rfl

@[simp] theorem answer_draws (s : State) (ok : Bool) :
    (s.answer ok).draws = s.draws := rfl

@[simp] theorem answer_out (s : State) (ok : Bool) :
    (s.answer ok).out = s.out := rfl

@[simp] theorem answer_ret (s : State) (ok : Bool) :
    (s.answer ok).ret = some (.bool ok) := rfl

/-! ### answerSized -/

@[simp] theorem answerSized_lc (s : State) (ok : Bool) (n : Word) :
    (s.answerSized ok n).lc = s.lc := rfl

@[simp] theorem answerSized_address (s : State) (ok : Bool) (n : Word) :
    (s.answerSized ok n).address = s.address := rfl

@[simp] theorem answerSized_configuration (s : State) (ok : Bool) (n : Word) :
    (s.answerSized ok n).configuration = s.configuration := rfl

@[simp] theorem answerSized_iface (s : State) (ok : Bool) (n : Word) :
    (s.answerSized ok n).iface = s.iface := rfl

@[simp] theorem answerSized_alternate (s : State) (ok : Bool) (n : Word) :
    (s.answerSized ok n).alternate = s.alternate := rfl

@[simp] theorem answerSized_remoteWakeup (s : State) (ok : Bool) (n : Word) :
    (s.answerSized ok n).remoteWakeup = s.remoteWakeup := rfl

@[simp] theorem answerSized_suspended (s : State) (ok : Bool) (n : Word) :
    (s.answerSized ok n).suspended = s.suspended := rfl

@[simp] theorem answerSized_sofEnabled (s : State) (ok : Bool) (n : Word) :
    (s.answerSized ok n).sofEnabled = s.sofEnabled := rfl

@[simp] theorem answerSized_ctx (s : State) (ok : Bool) (n : Word) :
    (s.answerSized ok n).ctx = s.ctx := rfl

@[simp] theorem answerSized_ep0Stalled (s : State) (ok : Bool) (n : Word) :
    (s.answerSized ok n).ep0Stalled = s.ep0Stalled := rfl

@[simp] theorem answerSized_stallCause (s : State) (ok : Bool) (n : Word) :
    (s.answerSized ok n).stallCause = s.stallCause := rfl

@[simp] theorem answerSized_et (s : State) (ok : Bool) (n : Word) :
    (s.answerSized ok n).et = s.et := rfl

@[simp] theorem answerSized_lockDepth (s : State) (ok : Bool) (n : Word) :
    (s.answerSized ok n).lockDepth = s.lockDepth := rfl

@[simp] theorem answerSized_mem (s : State) (ok : Bool) (n : Word) :
    (s.answerSized ok n).mem = s.mem := rfl

@[simp] theorem answerSized_tbm (s : State) (ok : Bool) (n : Word) :
    (s.answerSized ok n).tbm = s.tbm := rfl

@[simp] theorem answerSized_cfg (s : State) (ok : Bool) (n : Word) :
    (s.answerSized ok n).cfg = s.cfg := rfl

@[simp] theorem answerSized_inputs (s : State) (ok : Bool) (n : Word) :
    (s.answerSized ok n).inputs = s.inputs := rfl

@[simp] theorem answerSized_phyAnswers (s : State) (ok : Bool) (n : Word) :
    (s.answerSized ok n).phyAnswers = s.phyAnswers := rfl

@[simp] theorem answerSized_draws (s : State) (ok : Bool) (n : Word) :
    (s.answerSized ok n).draws = s.draws := rfl

@[simp] theorem answerSized_out (s : State) (ok : Bool) (n : Word) :
    (s.answerSized ok n).out = s.out := rfl

@[simp] theorem answerSized_ret (s : State) (ok : Bool) (n : Word) :
    (s.answerSized ok n).ret = some (.sized ok n) := rfl

/-! ### setEp -/

@[simp] theorem setEp_lc (s : State) (i : Fin 30) (r : EpRecord) :
    (s.setEp i r).lc = s.lc := rfl

@[simp] theorem setEp_address (s : State) (i : Fin 30) (r : EpRecord) :
    (s.setEp i r).address = s.address := rfl

@[simp] theorem setEp_configuration (s : State) (i : Fin 30) (r : EpRecord) :
    (s.setEp i r).configuration = s.configuration := rfl

@[simp] theorem setEp_iface (s : State) (i : Fin 30) (r : EpRecord) :
    (s.setEp i r).iface = s.iface := rfl

@[simp] theorem setEp_alternate (s : State) (i : Fin 30) (r : EpRecord) :
    (s.setEp i r).alternate = s.alternate := rfl

@[simp] theorem setEp_remoteWakeup (s : State) (i : Fin 30) (r : EpRecord) :
    (s.setEp i r).remoteWakeup = s.remoteWakeup := rfl

@[simp] theorem setEp_suspended (s : State) (i : Fin 30) (r : EpRecord) :
    (s.setEp i r).suspended = s.suspended := rfl

@[simp] theorem setEp_sofEnabled (s : State) (i : Fin 30) (r : EpRecord) :
    (s.setEp i r).sofEnabled = s.sofEnabled := rfl

@[simp] theorem setEp_ctx (s : State) (i : Fin 30) (r : EpRecord) :
    (s.setEp i r).ctx = s.ctx := rfl

@[simp] theorem setEp_ep0Stalled (s : State) (i : Fin 30) (r : EpRecord) :
    (s.setEp i r).ep0Stalled = s.ep0Stalled := rfl

@[simp] theorem setEp_stallCause (s : State) (i : Fin 30) (r : EpRecord) :
    (s.setEp i r).stallCause = s.stallCause := rfl

@[simp] theorem setEp_et (s : State) (i : Fin 30) (r : EpRecord) :
    (s.setEp i r).et = s.et.set i.val r := rfl

@[simp] theorem setEp_lockDepth (s : State) (i : Fin 30) (r : EpRecord) :
    (s.setEp i r).lockDepth = s.lockDepth := rfl

@[simp] theorem setEp_mem (s : State) (i : Fin 30) (r : EpRecord) :
    (s.setEp i r).mem = s.mem := rfl

@[simp] theorem setEp_tbm (s : State) (i : Fin 30) (r : EpRecord) :
    (s.setEp i r).tbm = s.tbm := rfl

@[simp] theorem setEp_cfg (s : State) (i : Fin 30) (r : EpRecord) :
    (s.setEp i r).cfg = s.cfg := rfl

@[simp] theorem setEp_inputs (s : State) (i : Fin 30) (r : EpRecord) :
    (s.setEp i r).inputs = s.inputs := rfl

@[simp] theorem setEp_phyAnswers (s : State) (i : Fin 30) (r : EpRecord) :
    (s.setEp i r).phyAnswers = s.phyAnswers := rfl

@[simp] theorem setEp_draws (s : State) (i : Fin 30) (r : EpRecord) :
    (s.setEp i r).draws = s.draws := rfl

@[simp] theorem setEp_out (s : State) (i : Fin 30) (r : EpRecord) :
    (s.setEp i r).out = s.out := rfl

@[simp] theorem setEp_ret (s : State) (i : Fin 30) (r : EpRecord) :
    (s.setEp i r).ret = s.ret := rfl

/-! ### forgetTransfers -/

@[simp] theorem forgetTransfers_lc (s : State) :
    (s.forgetTransfers).lc = s.lc := rfl

@[simp] theorem forgetTransfers_address (s : State) :
    (s.forgetTransfers).address = s.address := rfl

@[simp] theorem forgetTransfers_configuration (s : State) :
    (s.forgetTransfers).configuration = s.configuration := rfl

@[simp] theorem forgetTransfers_iface (s : State) :
    (s.forgetTransfers).iface = s.iface := rfl

@[simp] theorem forgetTransfers_alternate (s : State) :
    (s.forgetTransfers).alternate = s.alternate := rfl

@[simp] theorem forgetTransfers_remoteWakeup (s : State) :
    (s.forgetTransfers).remoteWakeup = s.remoteWakeup := rfl

@[simp] theorem forgetTransfers_suspended (s : State) :
    (s.forgetTransfers).suspended = s.suspended := rfl

@[simp] theorem forgetTransfers_sofEnabled (s : State) :
    (s.forgetTransfers).sofEnabled = s.sofEnabled := rfl

@[simp] theorem forgetTransfers_ctx (s : State) :
    (s.forgetTransfers).ctx = s.ctx := rfl

@[simp] theorem forgetTransfers_ep0Stalled (s : State) :
    (s.forgetTransfers).ep0Stalled = s.ep0Stalled := rfl

@[simp] theorem forgetTransfers_stallCause (s : State) :
    (s.forgetTransfers).stallCause = s.stallCause := rfl

@[simp] theorem forgetTransfers_et (s : State) :
    (s.forgetTransfers).et = forgetAll s.et := rfl

@[simp] theorem forgetTransfers_lockDepth (s : State) :
    (s.forgetTransfers).lockDepth = s.lockDepth := rfl

@[simp] theorem forgetTransfers_mem (s : State) :
    (s.forgetTransfers).mem = s.mem := rfl

@[simp] theorem forgetTransfers_tbm (s : State) :
    (s.forgetTransfers).tbm = s.tbm := rfl

@[simp] theorem forgetTransfers_cfg (s : State) :
    (s.forgetTransfers).cfg = s.cfg := rfl

@[simp] theorem forgetTransfers_inputs (s : State) :
    (s.forgetTransfers).inputs = s.inputs := rfl

@[simp] theorem forgetTransfers_phyAnswers (s : State) :
    (s.forgetTransfers).phyAnswers = s.phyAnswers := rfl

@[simp] theorem forgetTransfers_draws (s : State) :
    (s.forgetTransfers).draws = s.draws := rfl

@[simp] theorem forgetTransfers_out (s : State) :
    (s.forgetTransfers).out = s.out := rfl

@[simp] theorem forgetTransfers_ret (s : State) :
    (s.forgetTransfers).ret = s.ret := rfl

/-! ### clearContext -/

@[simp] theorem clearContext_lc (s : State) :
    (clearContext s).lc = s.lc := rfl

@[simp] theorem clearContext_address (s : State) :
    (clearContext s).address = s.address := rfl

@[simp] theorem clearContext_configuration (s : State) :
    (clearContext s).configuration = s.configuration := rfl

@[simp] theorem clearContext_iface (s : State) :
    (clearContext s).iface = s.iface := rfl

@[simp] theorem clearContext_alternate (s : State) :
    (clearContext s).alternate = s.alternate := rfl

@[simp] theorem clearContext_remoteWakeup (s : State) :
    (clearContext s).remoteWakeup = s.remoteWakeup := rfl

@[simp] theorem clearContext_suspended (s : State) :
    (clearContext s).suspended = s.suspended := rfl

@[simp] theorem clearContext_sofEnabled (s : State) :
    (clearContext s).sofEnabled = s.sofEnabled := rfl

@[simp] theorem clearContext_ctx (s : State) :
    (clearContext s).ctx = Ctx.reset := rfl

@[simp] theorem clearContext_ep0Stalled (s : State) :
    (clearContext s).ep0Stalled = s.ep0Stalled := rfl

@[simp] theorem clearContext_stallCause (s : State) :
    (clearContext s).stallCause = s.stallCause := rfl

@[simp] theorem clearContext_et (s : State) :
    (clearContext s).et = s.et := rfl

@[simp] theorem clearContext_lockDepth (s : State) :
    (clearContext s).lockDepth = s.lockDepth := rfl

@[simp] theorem clearContext_mem (s : State) :
    (clearContext s).mem = s.mem := rfl

@[simp] theorem clearContext_tbm (s : State) :
    (clearContext s).tbm = s.tbm := rfl

@[simp] theorem clearContext_cfg (s : State) :
    (clearContext s).cfg = s.cfg := rfl

@[simp] theorem clearContext_inputs (s : State) :
    (clearContext s).inputs = s.inputs := rfl

@[simp] theorem clearContext_phyAnswers (s : State) :
    (clearContext s).phyAnswers = s.phyAnswers := rfl

@[simp] theorem clearContext_draws (s : State) :
    (clearContext s).draws = s.draws := rfl

@[simp] theorem clearContext_out (s : State) :
    (clearContext s).out = s.out := rfl

@[simp] theorem clearContext_ret (s : State) :
    (clearContext s).ret = s.ret := rfl

/-! ### abortSilent -/

@[simp] theorem abortSilent_lc (s : State) :
    (abortSilent s).lc = s.lc := rfl

@[simp] theorem abortSilent_address (s : State) :
    (abortSilent s).address = s.address := rfl

@[simp] theorem abortSilent_configuration (s : State) :
    (abortSilent s).configuration = s.configuration := rfl

@[simp] theorem abortSilent_iface (s : State) :
    (abortSilent s).iface = s.iface := rfl

@[simp] theorem abortSilent_alternate (s : State) :
    (abortSilent s).alternate = s.alternate := rfl

@[simp] theorem abortSilent_remoteWakeup (s : State) :
    (abortSilent s).remoteWakeup = s.remoteWakeup := rfl

@[simp] theorem abortSilent_suspended (s : State) :
    (abortSilent s).suspended = s.suspended := rfl

@[simp] theorem abortSilent_sofEnabled (s : State) :
    (abortSilent s).sofEnabled = s.sofEnabled := rfl

@[simp] theorem abortSilent_ctx (s : State) :
    (abortSilent s).ctx = Ctx.reset := rfl

@[simp] theorem abortSilent_ep0Stalled (s : State) :
    (abortSilent s).ep0Stalled = s.ep0Stalled := rfl

@[simp] theorem abortSilent_stallCause (s : State) :
    (abortSilent s).stallCause = s.stallCause := rfl

@[simp] theorem abortSilent_et (s : State) :
    (abortSilent s).et = s.et := rfl

@[simp] theorem abortSilent_lockDepth (s : State) :
    (abortSilent s).lockDepth = s.lockDepth := rfl

@[simp] theorem abortSilent_mem (s : State) :
    (abortSilent s).mem = s.mem := rfl

@[simp] theorem abortSilent_tbm (s : State) :
    (abortSilent s).tbm = s.tbm := rfl

@[simp] theorem abortSilent_cfg (s : State) :
    (abortSilent s).cfg = s.cfg := rfl

@[simp] theorem abortSilent_inputs (s : State) :
    (abortSilent s).inputs = s.inputs := rfl

@[simp] theorem abortSilent_phyAnswers (s : State) :
    (abortSilent s).phyAnswers = s.phyAnswers := rfl

@[simp] theorem abortSilent_draws (s : State) :
    (abortSilent s).draws = s.draws := rfl

@[simp] theorem abortSilent_out (s : State) :
    (abortSilent s).out = s.out := rfl

@[simp] theorem abortSilent_ret (s : State) :
    (abortSilent s).ret = s.ret := rfl

/-! ### abortStall -/

@[simp] theorem abortStall_lc (c : StallCause) (s : State) :
    (abortStall c s).lc = s.lc := rfl

@[simp] theorem abortStall_address (c : StallCause) (s : State) :
    (abortStall c s).address = s.address := rfl

@[simp] theorem abortStall_configuration (c : StallCause) (s : State) :
    (abortStall c s).configuration = s.configuration := rfl

@[simp] theorem abortStall_iface (c : StallCause) (s : State) :
    (abortStall c s).iface = s.iface := rfl

@[simp] theorem abortStall_alternate (c : StallCause) (s : State) :
    (abortStall c s).alternate = s.alternate := rfl

@[simp] theorem abortStall_remoteWakeup (c : StallCause) (s : State) :
    (abortStall c s).remoteWakeup = s.remoteWakeup := rfl

@[simp] theorem abortStall_suspended (c : StallCause) (s : State) :
    (abortStall c s).suspended = s.suspended := rfl

@[simp] theorem abortStall_sofEnabled (c : StallCause) (s : State) :
    (abortStall c s).sofEnabled = s.sofEnabled := rfl

@[simp] theorem abortStall_ctx (c : StallCause) (s : State) :
    (abortStall c s).ctx = Ctx.reset := rfl

@[simp] theorem abortStall_ep0Stalled (c : StallCause) (s : State) :
    (abortStall c s).ep0Stalled = true := rfl

@[simp] theorem abortStall_stallCause (c : StallCause) (s : State) :
    (abortStall c s).stallCause = c.code := rfl

@[simp] theorem abortStall_et (c : StallCause) (s : State) :
    (abortStall c s).et = s.et := rfl

@[simp] theorem abortStall_lockDepth (c : StallCause) (s : State) :
    (abortStall c s).lockDepth = s.lockDepth := rfl

@[simp] theorem abortStall_mem (c : StallCause) (s : State) :
    (abortStall c s).mem = s.mem := rfl

@[simp] theorem abortStall_tbm (c : StallCause) (s : State) :
    (abortStall c s).tbm = s.tbm := rfl

@[simp] theorem abortStall_cfg (c : StallCause) (s : State) :
    (abortStall c s).cfg = s.cfg := rfl

@[simp] theorem abortStall_inputs (c : StallCause) (s : State) :
    (abortStall c s).inputs = s.inputs := rfl

@[simp] theorem abortStall_phyAnswers (c : StallCause) (s : State) :
    (abortStall c s).phyAnswers = s.phyAnswers := rfl

@[simp] theorem abortStall_draws (c : StallCause) (s : State) :
    (abortStall c s).draws = s.draws := rfl

@[simp] theorem abortStall_out (c : StallCause) (s : State) :
    (abortStall c s).out = s.out ++ [.ep0Stall] := rfl

@[simp] theorem abortStall_ret (c : StallCause) (s : State) :
    (abortStall c s).ret = s.ret := rfl

/-! ### leaveStall -/

@[simp] theorem leaveStall_lc (s : State) :
    (leaveStall s).lc = s.lc := rfl

@[simp] theorem leaveStall_address (s : State) :
    (leaveStall s).address = s.address := rfl

@[simp] theorem leaveStall_configuration (s : State) :
    (leaveStall s).configuration = s.configuration := rfl

@[simp] theorem leaveStall_iface (s : State) :
    (leaveStall s).iface = s.iface := rfl

@[simp] theorem leaveStall_alternate (s : State) :
    (leaveStall s).alternate = s.alternate := rfl

@[simp] theorem leaveStall_remoteWakeup (s : State) :
    (leaveStall s).remoteWakeup = s.remoteWakeup := rfl

@[simp] theorem leaveStall_suspended (s : State) :
    (leaveStall s).suspended = s.suspended := rfl

@[simp] theorem leaveStall_sofEnabled (s : State) :
    (leaveStall s).sofEnabled = s.sofEnabled := rfl

@[simp] theorem leaveStall_ctx (s : State) :
    (leaveStall s).ctx = s.ctx := rfl

@[simp] theorem leaveStall_ep0Stalled (s : State) :
    (leaveStall s).ep0Stalled = false := rfl

@[simp] theorem leaveStall_stallCause (s : State) :
    (leaveStall s).stallCause = s.stallCause := rfl

@[simp] theorem leaveStall_et (s : State) :
    (leaveStall s).et = s.et := rfl

@[simp] theorem leaveStall_lockDepth (s : State) :
    (leaveStall s).lockDepth = s.lockDepth := rfl

@[simp] theorem leaveStall_mem (s : State) :
    (leaveStall s).mem = s.mem := rfl

@[simp] theorem leaveStall_tbm (s : State) :
    (leaveStall s).tbm = s.tbm := rfl

@[simp] theorem leaveStall_cfg (s : State) :
    (leaveStall s).cfg = s.cfg := rfl

@[simp] theorem leaveStall_inputs (s : State) :
    (leaveStall s).inputs = s.inputs := rfl

@[simp] theorem leaveStall_phyAnswers (s : State) :
    (leaveStall s).phyAnswers = s.phyAnswers := rfl

@[simp] theorem leaveStall_draws (s : State) :
    (leaveStall s).draws = s.draws := rfl

@[simp] theorem leaveStall_out (s : State) :
    (leaveStall s).out = s.out := rfl

@[simp] theorem leaveStall_ret (s : State) :
    (leaveStall s).ret = s.ret := rfl

/-! ### nextDraw -/

@[simp] theorem nextDraw_lc (s : State) :
    (nextDraw s).lc = s.lc := rfl

@[simp] theorem nextDraw_address (s : State) :
    (nextDraw s).address = s.address := rfl

@[simp] theorem nextDraw_configuration (s : State) :
    (nextDraw s).configuration = s.configuration := rfl

@[simp] theorem nextDraw_iface (s : State) :
    (nextDraw s).iface = s.iface := rfl

@[simp] theorem nextDraw_alternate (s : State) :
    (nextDraw s).alternate = s.alternate := rfl

@[simp] theorem nextDraw_remoteWakeup (s : State) :
    (nextDraw s).remoteWakeup = s.remoteWakeup := rfl

@[simp] theorem nextDraw_suspended (s : State) :
    (nextDraw s).suspended = s.suspended := rfl

@[simp] theorem nextDraw_sofEnabled (s : State) :
    (nextDraw s).sofEnabled = s.sofEnabled := rfl

@[simp] theorem nextDraw_ctx (s : State) :
    (nextDraw s).ctx = s.ctx := rfl

@[simp] theorem nextDraw_ep0Stalled (s : State) :
    (nextDraw s).ep0Stalled = s.ep0Stalled := rfl

@[simp] theorem nextDraw_stallCause (s : State) :
    (nextDraw s).stallCause = s.stallCause := rfl

@[simp] theorem nextDraw_et (s : State) :
    (nextDraw s).et = s.et := rfl

@[simp] theorem nextDraw_lockDepth (s : State) :
    (nextDraw s).lockDepth = s.lockDepth := rfl

@[simp] theorem nextDraw_mem (s : State) :
    (nextDraw s).mem = s.mem := rfl

@[simp] theorem nextDraw_tbm (s : State) :
    (nextDraw s).tbm = s.tbm := rfl

@[simp] theorem nextDraw_cfg (s : State) :
    (nextDraw s).cfg = s.cfg := rfl

@[simp] theorem nextDraw_inputs (s : State) :
    (nextDraw s).inputs = s.inputs := rfl

@[simp] theorem nextDraw_phyAnswers (s : State) :
    (nextDraw s).phyAnswers = s.phyAnswers.tail := rfl

@[simp] theorem nextDraw_draws (s : State) :
    (nextDraw s).draws = s.draws + 1 := rfl

@[simp] theorem nextDraw_out (s : State) :
    (nextDraw s).out = s.out := rfl

@[simp] theorem nextDraw_ret (s : State) :
    (nextDraw s).ret = s.ret := rfl

/-! ### answered -/

@[simp] theorem answered_lc (s : State) :
    (s.answered).lc = s.lc := rfl

@[simp] theorem answered_address (s : State) :
    (s.answered).address = s.address := rfl

@[simp] theorem answered_configuration (s : State) :
    (s.answered).configuration = s.configuration := rfl

@[simp] theorem answered_iface (s : State) :
    (s.answered).iface = s.iface := rfl

@[simp] theorem answered_alternate (s : State) :
    (s.answered).alternate = s.alternate := rfl

@[simp] theorem answered_remoteWakeup (s : State) :
    (s.answered).remoteWakeup = s.remoteWakeup := rfl

@[simp] theorem answered_suspended (s : State) :
    (s.answered).suspended = s.suspended := rfl

@[simp] theorem answered_sofEnabled (s : State) :
    (s.answered).sofEnabled = s.sofEnabled := rfl

@[simp] theorem answered_ctx (s : State) :
    (s.answered).ctx = { s.ctx with awaiting := .none } := rfl

@[simp] theorem answered_ep0Stalled (s : State) :
    (s.answered).ep0Stalled = s.ep0Stalled := rfl

@[simp] theorem answered_stallCause (s : State) :
    (s.answered).stallCause = s.stallCause := rfl

@[simp] theorem answered_et (s : State) :
    (s.answered).et = s.et := rfl

@[simp] theorem answered_lockDepth (s : State) :
    (s.answered).lockDepth = s.lockDepth := rfl

@[simp] theorem answered_mem (s : State) :
    (s.answered).mem = s.mem := rfl

@[simp] theorem answered_tbm (s : State) :
    (s.answered).tbm = s.tbm := rfl

@[simp] theorem answered_cfg (s : State) :
    (s.answered).cfg = s.cfg := rfl

@[simp] theorem answered_inputs (s : State) :
    (s.answered).inputs = s.inputs := rfl

@[simp] theorem answered_phyAnswers (s : State) :
    (s.answered).phyAnswers = s.phyAnswers := rfl

@[simp] theorem answered_draws (s : State) :
    (s.answered).draws = s.draws := rfl

@[simp] theorem answered_out (s : State) :
    (s.answered).out = s.out := rfl

@[simp] theorem answered_ret (s : State) :
    (s.answered).ret = s.ret := rfl

/-! ### enterStatusIn -/

@[simp] theorem enterStatusIn_lc (s : State) :
    (enterStatusIn s).lc = s.lc := rfl

@[simp] theorem enterStatusIn_address (s : State) :
    (enterStatusIn s).address = s.address := rfl

@[simp] theorem enterStatusIn_configuration (s : State) :
    (enterStatusIn s).configuration = s.configuration := rfl

@[simp] theorem enterStatusIn_iface (s : State) :
    (enterStatusIn s).iface = s.iface := rfl

@[simp] theorem enterStatusIn_alternate (s : State) :
    (enterStatusIn s).alternate = s.alternate := rfl

@[simp] theorem enterStatusIn_remoteWakeup (s : State) :
    (enterStatusIn s).remoteWakeup = s.remoteWakeup := rfl

@[simp] theorem enterStatusIn_suspended (s : State) :
    (enterStatusIn s).suspended = s.suspended := rfl

@[simp] theorem enterStatusIn_sofEnabled (s : State) :
    (enterStatusIn s).sofEnabled = s.sofEnabled := rfl

@[simp] theorem enterStatusIn_ctx (s : State) :
    (enterStatusIn s).ctx = { s.ctx with stage := .status, ep0InBusy := true } := rfl

@[simp] theorem enterStatusIn_ep0Stalled (s : State) :
    (enterStatusIn s).ep0Stalled = s.ep0Stalled := rfl

@[simp] theorem enterStatusIn_stallCause (s : State) :
    (enterStatusIn s).stallCause = s.stallCause := rfl

@[simp] theorem enterStatusIn_et (s : State) :
    (enterStatusIn s).et = s.et := rfl

@[simp] theorem enterStatusIn_lockDepth (s : State) :
    (enterStatusIn s).lockDepth = s.lockDepth := rfl

@[simp] theorem enterStatusIn_mem (s : State) :
    (enterStatusIn s).mem = s.mem := rfl

@[simp] theorem enterStatusIn_tbm (s : State) :
    (enterStatusIn s).tbm = s.tbm := rfl

@[simp] theorem enterStatusIn_cfg (s : State) :
    (enterStatusIn s).cfg = s.cfg := rfl

@[simp] theorem enterStatusIn_inputs (s : State) :
    (enterStatusIn s).inputs = s.inputs := rfl

@[simp] theorem enterStatusIn_phyAnswers (s : State) :
    (enterStatusIn s).phyAnswers = s.phyAnswers := rfl

@[simp] theorem enterStatusIn_draws (s : State) :
    (enterStatusIn s).draws = s.draws := rfl

@[simp] theorem enterStatusIn_out (s : State) :
    (enterStatusIn s).out = s.out ++ [.ep0Write []] := rfl

@[simp] theorem enterStatusIn_ret (s : State) :
    (enterStatusIn s).ret = s.ret := rfl

/-! ### enterStatusOut -/

@[simp] theorem enterStatusOut_lc (s : State) :
    (enterStatusOut s).lc = s.lc := rfl

@[simp] theorem enterStatusOut_address (s : State) :
    (enterStatusOut s).address = s.address := rfl

@[simp] theorem enterStatusOut_configuration (s : State) :
    (enterStatusOut s).configuration = s.configuration := rfl

@[simp] theorem enterStatusOut_iface (s : State) :
    (enterStatusOut s).iface = s.iface := rfl

@[simp] theorem enterStatusOut_alternate (s : State) :
    (enterStatusOut s).alternate = s.alternate := rfl

@[simp] theorem enterStatusOut_remoteWakeup (s : State) :
    (enterStatusOut s).remoteWakeup = s.remoteWakeup := rfl

@[simp] theorem enterStatusOut_suspended (s : State) :
    (enterStatusOut s).suspended = s.suspended := rfl

@[simp] theorem enterStatusOut_sofEnabled (s : State) :
    (enterStatusOut s).sofEnabled = s.sofEnabled := rfl

@[simp] theorem enterStatusOut_ctx (s : State) :
    (enterStatusOut s).ctx = { s.ctx with stage := .status, ep0OutArmed := true } := rfl

@[simp] theorem enterStatusOut_ep0Stalled (s : State) :
    (enterStatusOut s).ep0Stalled = s.ep0Stalled := rfl

@[simp] theorem enterStatusOut_stallCause (s : State) :
    (enterStatusOut s).stallCause = s.stallCause := rfl

@[simp] theorem enterStatusOut_et (s : State) :
    (enterStatusOut s).et = s.et := rfl

@[simp] theorem enterStatusOut_lockDepth (s : State) :
    (enterStatusOut s).lockDepth = s.lockDepth := rfl

@[simp] theorem enterStatusOut_mem (s : State) :
    (enterStatusOut s).mem = s.mem := rfl

@[simp] theorem enterStatusOut_tbm (s : State) :
    (enterStatusOut s).tbm = s.tbm := rfl

@[simp] theorem enterStatusOut_cfg (s : State) :
    (enterStatusOut s).cfg = s.cfg := rfl

@[simp] theorem enterStatusOut_inputs (s : State) :
    (enterStatusOut s).inputs = s.inputs := rfl

@[simp] theorem enterStatusOut_phyAnswers (s : State) :
    (enterStatusOut s).phyAnswers = s.phyAnswers := rfl

@[simp] theorem enterStatusOut_draws (s : State) :
    (enterStatusOut s).draws = s.draws := rfl

@[simp] theorem enterStatusOut_out (s : State) :
    (enterStatusOut s).out = s.out ++ [.ep0Read 0] := rfl

@[simp] theorem enterStatusOut_ret (s : State) :
    (enterStatusOut s).ret = s.ret := rfl

/-! ### The Endpoint Table's records -/

@[simp] theorem begin_ep (s : State) (i : Fin 30) :
    State.ep (s.begin) i = s.ep i := rfl

@[simp] theorem emit_ep (s : State) (o : Output) (i : Fin 30) :
    State.ep (s.emit o) i = s.ep i := rfl

@[simp] theorem answer_ep (s : State) (ok : Bool) (i : Fin 30) :
    State.ep (s.answer ok) i = s.ep i := rfl

@[simp] theorem answerSized_ep (s : State) (ok : Bool) (n : Word) (i : Fin 30) :
    State.ep (s.answerSized ok n) i = s.ep i := rfl

@[simp] theorem clearContext_ep (s : State) (i : Fin 30) :
    State.ep (clearContext s) i = s.ep i := rfl

@[simp] theorem abortSilent_ep (s : State) (i : Fin 30) :
    State.ep (abortSilent s) i = s.ep i := rfl

@[simp] theorem abortStall_ep (c : StallCause) (s : State) (i : Fin 30) :
    State.ep (abortStall c s) i = s.ep i := rfl

@[simp] theorem leaveStall_ep (s : State) (i : Fin 30) :
    State.ep (leaveStall s) i = s.ep i := rfl

@[simp] theorem nextDraw_ep (s : State) (i : Fin 30) :
    State.ep (nextDraw s) i = s.ep i := rfl

@[simp] theorem answered_ep (s : State) (i : Fin 30) :
    State.ep (s.answered) i = s.ep i := rfl

@[simp] theorem enterStatusIn_ep (s : State) (i : Fin 30) :
    State.ep (enterStatusIn s) i = s.ep i := rfl

@[simp] theorem enterStatusOut_ep (s : State) (i : Fin 30) :
    State.ep (enterStatusOut s) i = s.ep i := rfl

@[simp] theorem setEp_ep_self (s : State) (i : Fin 30) (r : EpRecord) : (s.setEp i r).ep i = r := by
  simp [State.ep, State.setEp]

theorem setEp_ep_of_ne (s : State) (i j : Fin 30) (r : EpRecord) (h : i ≠ j) :
    (s.setEp i r).ep j = s.ep j := by
  have h' : i.val ≠ j.val := fun e => h (Fin.ext e)
  simp [State.ep, State.setEp, Vector.getElem_set_ne, h']

theorem setEp_ep (s : State) (i j : Fin 30) (r : EpRecord) :
    (s.setEp i r).ep j = if i = j then r else s.ep j := by
  split
  · rename_i h; subst h; simp
  · rename_i h; exact setEp_ep_of_ne s i j r h

@[simp] theorem forgetTransfers_ep (s : State) (i : Fin 30) :
    s.forgetTransfers.ep i = (s.ep i).forget := by
  simp [State.ep, State.forgetTransfers, forgetAll]

/-! ### changeState -/

@[simp] theorem changeState_address (new : Lifecycle) (s : State) :
    (changeState new s).address = s.address := by
  unfold changeState; (repeat' split) <;> rfl

@[simp] theorem changeState_remoteWakeup (new : Lifecycle) (s : State) :
    (changeState new s).remoteWakeup = s.remoteWakeup := by
  unfold changeState; (repeat' split) <;> rfl

@[simp] theorem changeState_suspended (new : Lifecycle) (s : State) :
    (changeState new s).suspended = s.suspended := by
  unfold changeState; (repeat' split) <;> rfl

@[simp] theorem changeState_sofEnabled (new : Lifecycle) (s : State) :
    (changeState new s).sofEnabled = s.sofEnabled := by
  unfold changeState; (repeat' split) <;> rfl

@[simp] theorem changeState_ctx (new : Lifecycle) (s : State) :
    (changeState new s).ctx = s.ctx := by
  unfold changeState; (repeat' split) <;> rfl

@[simp] theorem changeState_ep0Stalled (new : Lifecycle) (s : State) :
    (changeState new s).ep0Stalled = s.ep0Stalled := by
  unfold changeState; (repeat' split) <;> rfl

@[simp] theorem changeState_stallCause (new : Lifecycle) (s : State) :
    (changeState new s).stallCause = s.stallCause := by
  unfold changeState; (repeat' split) <;> rfl

@[simp] theorem changeState_et (new : Lifecycle) (s : State) :
    (changeState new s).et = s.et := by
  unfold changeState; (repeat' split) <;> rfl

@[simp] theorem changeState_lockDepth (new : Lifecycle) (s : State) :
    (changeState new s).lockDepth = s.lockDepth := by
  unfold changeState; (repeat' split) <;> rfl

@[simp] theorem changeState_mem (new : Lifecycle) (s : State) :
    (changeState new s).mem = s.mem := by
  unfold changeState; (repeat' split) <;> rfl

@[simp] theorem changeState_tbm (new : Lifecycle) (s : State) :
    (changeState new s).tbm = s.tbm := by
  unfold changeState; (repeat' split) <;> rfl

@[simp] theorem changeState_cfg (new : Lifecycle) (s : State) :
    (changeState new s).cfg = s.cfg := by
  unfold changeState; (repeat' split) <;> rfl

@[simp] theorem changeState_inputs (new : Lifecycle) (s : State) :
    (changeState new s).inputs = s.inputs := by
  unfold changeState; (repeat' split) <;> rfl

@[simp] theorem changeState_phyAnswers (new : Lifecycle) (s : State) :
    (changeState new s).phyAnswers = s.phyAnswers := by
  unfold changeState; (repeat' split) <;> rfl

@[simp] theorem changeState_draws (new : Lifecycle) (s : State) :
    (changeState new s).draws = s.draws := by
  unfold changeState; (repeat' split) <;> rfl

@[simp] theorem changeState_ret (new : Lifecycle) (s : State) :
    (changeState new s).ret = s.ret := by
  unfold changeState; (repeat' split) <;> rfl

@[simp] theorem changeState_lc (new : Lifecycle) (s : State) : (changeState new s).lc = new := by
  unfold changeState; (repeat' split) <;> simp_all

@[simp] theorem changeState_ep (new : Lifecycle) (s : State) (i : Fin 30) :
    (changeState new s).ep i = s.ep i := by
  unfold changeState; (repeat' split) <;> rfl

theorem changeState_self (s : State) : changeState s.lc s = s := by
  simp [changeState]

theorem changeState_configured_of_ne (s : State) (h : s.lc ≠ .configured) :
    changeState .configured s = { s with lc := .configured }.emit (.cbStateChange .configured) := by
  simp [changeState, Ne.symm h]

theorem changeState_other_of_ne (new : Lifecycle) (s : State) (h : s.lc ≠ new) (hc : new ≠ .configured) :
    changeState new s =
      { s with lc := new, configuration := 0, iface := 0, alternate := 0 }.emit (.cbStateChange new) := by
  simp [changeState, Ne.symm h, hc]

end Sys2Proof.Machine
end

