-- ==== Sys2Proof/Laws/Memory.lean ====
section
/-! SUPPORT. The transfer-buffer memory: every operation keeps the canonical form, a byte read after a store is the byte
stored, and a store leaves every other byte alone. -/

namespace Sys2Proof.Machine

/-! ### The canonical form -/

theorem wfFrom_mono {low low' : Nat} (m : Memory) (h : low' ≤ low) (hm : Memory.wfFrom low m = true) :
    Memory.wfFrom low' m = true := by
  cases m with
  | nil => rfl
  | cons c rest =>
    obtain ⟨k, v⟩ := c
    simp only [Memory.wfFrom, Bool.and_eq_true, decide_eq_true_eq] at hm ⊢
    exact ⟨⟨⟨by omega, hm.1.1.2⟩, hm.1.2⟩, hm.2⟩

theorem read_of_lt {low : Nat} (m : Memory) (a : Nat) (h : a < low) (hm : Memory.wfFrom low m = true) :
    Memory.read m a = unlistedByte := by
  induction m generalizing low with
  | nil => rfl
  | cons c rest ih =>
    obtain ⟨k, v⟩ := c
    simp only [Memory.wfFrom, Bool.and_eq_true, decide_eq_true_eq] at hm
    have hk : k ≠ a := by omega
    simp only [Memory.read, hk, if_false]
    exact ih (low := k + 1) (by omega) hm.2

theorem wfFrom_cons {low a : Nat} (b : Byte) (m : Memory) (h : low ≤ a) (ha : a < 2 ^ 32)
    (hm : Memory.wfFrom (a + 1) m = true) : Memory.wfFrom low (Memory.cons a b m) = true := by
  unfold Memory.cons
  split
  · exact wfFrom_mono m (by omega) hm
  · simp_all [Memory.wfFrom]

theorem wfFrom_write {low a : Nat} (b : Byte) (m : Memory) (h : low ≤ a) (ha : a < 2 ^ 32)
    (hm : Memory.wfFrom low m = true) : Memory.wfFrom low (Memory.write m a b) = true := by
  induction m generalizing low with
  | nil => exact wfFrom_cons b [] h ha rfl
  | cons c rest ih =>
    obtain ⟨k, v⟩ := c
    have hm' := hm
    simp only [Memory.wfFrom, Bool.and_eq_true, decide_eq_true_eq] at hm'
    unfold Memory.write
    split
    · apply wfFrom_cons b _ h ha
      simp only [Memory.wfFrom, Bool.and_eq_true, decide_eq_true_eq]
      exact ⟨⟨⟨by omega, hm'.1.1.2⟩, hm'.1.2⟩, hm'.2⟩
    · split
      · apply wfFrom_cons b rest h ha
        rename_i e
        rw [e]; exact hm'.2
      · simp only [Memory.wfFrom, Bool.and_eq_true, decide_eq_true_eq]
        exact ⟨hm'.1, ih (by omega) hm'.2⟩

theorem wf_write (m : Memory) (a : Nat) (b : Byte) (ha : a < 2 ^ 32) (hm : Memory.wf m = true) :
    Memory.wf (Memory.write m a b) = true :=
  wfFrom_write b m (Nat.zero_le a) ha hm

theorem wf_writeBytes (m : Memory) (a : Word) (d : List Byte) (hm : Memory.wf m = true) :
    Memory.wf (Memory.writeBytes m a d) = true := by
  induction d generalizing m a with
  | nil => exact hm
  | cons b rest ih => exact ih _ _ (wf_write m a.toNat b a.isLt hm)

theorem reset_mem_wf : Memory.wf State.reset.mem = true := rfl

/-! ### Reading after writing -/

theorem read_cons (a : Nat) (b : Byte) (m : Memory) (hm : Memory.wfFrom (a + 1) m = true) (x : Nat) :
    Memory.read (Memory.cons a b m) x = if a = x then b else Memory.read m x := by
  unfold Memory.cons
  split
  · split
    · rename_i e h; subst h
      rw [e]; exact read_of_lt m a (Nat.lt_succ_self a) hm
    · rfl
  · rfl

theorem read_write {low : Nat} (m : Memory) (a : Nat) (b : Byte) (hm : Memory.wfFrom low m = true) (x : Nat) :
    Memory.read (Memory.write m a b) x = if a = x then b else Memory.read m x := by
  induction m generalizing low with
  | nil => exact read_cons a b [] rfl x
  | cons c rest ih =>
    obtain ⟨k, v⟩ := c
    have hm' := hm
    simp only [Memory.wfFrom, Bool.and_eq_true, decide_eq_true_eq] at hm'
    unfold Memory.write
    split
    · apply read_cons
      simp only [Memory.wfFrom, Bool.and_eq_true, decide_eq_true_eq]
      exact ⟨⟨⟨by omega, hm'.1.1.2⟩, hm'.1.2⟩, hm'.2⟩
    · split
      · rename_i e; subst e
        rw [read_cons a b rest hm'.2]
        split
        · rfl
        · rename_i h; simp [Memory.read, h]
      · rename_i hlt hne
        simp only [Memory.read, ih hm'.2]
        by_cases hk : k = x
        · have : a ≠ x := by omega
          simp [hk, this]
        · simp [hk]

theorem read_write_self (m : Memory) (a : Nat) (b : Byte) (hm : Memory.wf m = true) :
    Memory.read (Memory.write m a b) a = b := by
  simp [read_write (low := 0) m a b hm]

theorem read_write_other (m : Memory) (a x : Nat) (b : Byte) (hm : Memory.wf m = true) (h : a ≠ x) :
    Memory.read (Memory.write m a b) x = Memory.read m x := by
  simp [read_write (low := 0) m a b hm, h]

/-! ### Byte ranges -/

@[simp] theorem readBytes_length (m : Memory) (a : Word) (n : Nat) :
    (Memory.readBytes m a n).length = n := by
  induction n generalizing a with
  | zero => rfl
  | succ n ih => simp [Memory.readBytes, ih]

theorem readBytes_getElem? (m : Memory) (a : Word) (n k : Nat) (h : k < n) :
    (Memory.readBytes m a n)[k]? = some (Memory.read m (a + BitVec.ofNat 32 k).toNat) := by
  induction n generalizing a k with
  | zero => omega
  | succ n ih =>
    cases k with
    | zero => simp [Memory.readBytes]
    | succ k =>
      simp only [Memory.readBytes, List.getElem?_cons_succ]
      rw [ih (a + 1) k (by omega)]
      have e : a + 1 + BitVec.ofNat 32 k = a + BitVec.ofNat 32 (k + 1) := by
        apply BitVec.eq_of_toNat_eq
        simp [BitVec.toNat_add]
        omega
      rw [e]

/-- A byte outside the stored range reads as before. -/
theorem read_writeBytes_outside (m : Memory) (a : Word) (d : List Byte) (hm : Memory.wf m = true) (x : Word)
    (h : d.length ≤ (x - a).toNat) :
    Memory.read (Memory.writeBytes m a d) x.toNat = Memory.read m x.toNat := by
  induction d generalizing m a with
  | nil => rfl
  | cons b rest ih =>
    rw [List.length_cons] at h
    have hpos : 0 < (x - a).toNat := by omega
    have hne : a.toNat ≠ x.toNat := by
      intro e
      have : a = x := BitVec.eq_of_toNat_eq e
      subst this; simp at hpos
    have hstep : (x - (a + 1)).toNat = (x - a).toNat - 1 := by
      have one : (1 : Word).toNat = 1 := rfl
      simp only [BitVec.toNat_sub, BitVec.toNat_add, one] at hpos ⊢
      omega
    simp only [Memory.writeBytes]
    rw [ih _ (a + 1) (wf_write m a.toNat b a.isLt hm) (by omega)]
    exact read_write_other m _ _ b hm hne

/-- Byte `k` of the stored range reads as byte `k` of the data. -/
theorem read_writeBytes_inside (m : Memory) (a : Word) (d : List Byte) (hm : Memory.wf m = true)
    (hd : d.length ≤ 2 ^ 32) (k : Nat) (h : k < d.length) :
    Memory.read (Memory.writeBytes m a d) (a + BitVec.ofNat 32 k).toNat = d[k] := by
  induction d generalizing m a k with
  | nil => simp at h
  | cons b rest ih =>
    have hlen : rest.length < 2 ^ 32 := by simp at hd; omega
    cases k with
    | zero =>
      have e : a + BitVec.ofNat 32 0 = a := by simp
      simp only [Memory.writeBytes, e, List.getElem_cons_zero]
      rw [read_writeBytes_outside _ (a + 1) rest (wf_write m a.toNat b a.isLt hm) a]
      · exact read_write_self m _ b hm
      · have : (a - (a + 1)).toNat = 2 ^ 32 - 1 := by
          have one : (1 : Word).toNat = 1 := rfl
          simp only [BitVec.toNat_sub, BitVec.toNat_add, one]; omega
        omega
    | succ k =>
      have e : a + BitVec.ofNat 32 (k + 1) = (a + 1) + BitVec.ofNat 32 k := by
        apply BitVec.eq_of_toNat_eq
        simp [BitVec.toNat_add]
        omega
      simp only [Memory.writeBytes, List.getElem_cons_succ, e]
      exact ih _ (a + 1) (wf_write m a.toNat b a.isLt hm) (by omega) k (by simpa using h)

end Sys2Proof.Machine
end

