-- ==== Sys2Proof/Laws/Ops.lean ====
section
/-! SUPPORT. What each shared operation does, case by case: each lemma's conclusion is the operation's whole result. A proof
about an instruction cites these and unfolds no operation. -/

namespace Sys2Proof.Machine

/-! ### From a body to an outcome -/

theorem operation_of_ok {op : Instr} {body : State → Except Breach State} {s t : State}
    (h : body s.begin = .ok t) : operation op body s = .next t := by
  simp only [operation, h]

theorem operation_of_error {op : Instr} {body : State → Except Breach State} {s : State} {b : Breach}
    (h : body s.begin = .error b) : operation op body s = .fault (b.raisedBy op) := by
  simp only [operation, h]

theorem operation_next {op : Instr} {body : State → Except Breach State} {s t : State}
    (h : operation op body s = .next t) : body s.begin = .ok t := by
  unfold operation at h
  split at h <;> simp_all

theorem operation_fault {op : Instr} {body : State → Except Breach State} {s : State} {f : Fault}
    (h : operation op body s = .fault f) : ∃ b, body s.begin = .error b ∧ f = b.raisedBy op := by
  unfold operation at h
  split at h
  · cases h
  · rename_i b e
    cases h; exact ⟨b, e, rfl⟩

theorem operation_not_refused {op : Instr} {body : State → Except Breach State} {s : State} {r : Refusal} :
    operation op body s ≠ .refused r := by
  unfold operation
  split <;> simp

theorem plainOperation_next {body : State → State} {s t : State} (h : plainOperation body s = .next t) :
    t = body s.begin := by
  simp only [plainOperation, Host.Outcome.next.injEq] at h
  exact h.symm

/-! ### The transfer-buffer memory -/

theorem admits_begin (s : State) (a n : Word) : s.begin.admits a n = s.admits a n := rfl

theorem memRead_of_admitted {a n : Word} {s : State} (h : n = 0 ∨ s.admits a n = true) :
    memRead a n s = .ok (Memory.readBytes s.mem a n.toNat) := by
  unfold memRead
  by_cases h0 : n = 0
  · rw [if_pos h0, h0]; rfl
  · rw [if_neg h0, if_pos (h.resolve_left h0)]

theorem memRead_of_missing {a n : Word} {s : State} (h0 : n ≠ 0) (h : s.admits a n = false) :
    memRead a n s = .error (.bufferFault (.mem a) n) := by
  unfold memRead
  rw [if_neg h0, if_neg (by rw [h]; exact Bool.false_ne_true)]

/-- A read answers the bytes of its range, or a BufferFault. -/
theorem memRead_cases (a n : Word) (s : State) :
    ((n = 0 ∨ s.admits a n = true) ∧ memRead a n s = .ok (Memory.readBytes s.mem a n.toNat)) ∨
    (n ≠ 0 ∧ s.admits a n = false ∧ memRead a n s = .error (.bufferFault (.mem a) n)) := by
  by_cases h0 : n = 0
  · exact .inl ⟨.inl h0, memRead_of_admitted (.inl h0)⟩
  · cases h : s.admits a n
    · exact .inr ⟨h0, rfl, memRead_of_missing h0 h⟩
    · exact .inl ⟨.inr rfl, memRead_of_admitted (.inr h)⟩

theorem memWrite_of_admitted {a : Word} {d : List Byte} {s : State}
    (h : d = [] ∨ s.admits a (BitVec.ofNat 32 d.length) = true) :
    memWrite a d s = .ok { s with mem := Memory.writeBytes s.mem a d } := by
  unfold memWrite
  by_cases h0 : d = []
  · rw [if_pos h0, h0]; rfl
  · rw [if_neg h0, if_pos (h.resolve_left h0)]

theorem memWrite_of_missing {a : Word} {d : List Byte} {s : State} (h0 : d ≠ [])
    (h : s.admits a (BitVec.ofNat 32 d.length) = false) :
    memWrite a d s = .error (.bufferFault (.mem a) (BitVec.ofNat 32 d.length)) := by
  unfold memWrite
  rw [if_neg h0, if_neg (by rw [h]; exact Bool.false_ne_true)]

/-- A write stores its bytes and changes nothing but the memory, or is a BufferFault. -/
theorem memWrite_cases (a : Word) (d : List Byte) (s : State) :
    ((d = [] ∨ s.admits a (BitVec.ofNat 32 d.length) = true) ∧
      memWrite a d s = .ok { s with mem := Memory.writeBytes s.mem a d }) ∨
    (d ≠ [] ∧ s.admits a (BitVec.ofNat 32 d.length) = false ∧
      memWrite a d s = .error (.bufferFault (.mem a) (BitVec.ofNat 32 d.length))) := by
  by_cases h0 : d = []
  · exact .inl ⟨.inl h0, memWrite_of_admitted (.inl h0)⟩
  · cases h : s.admits a (BitVec.ofNat 32 d.length)
    · exact .inr ⟨h0, rfl, memWrite_of_missing h0 h⟩
    · exact .inl ⟨.inr rfl, memWrite_of_admitted (.inr h)⟩

theorem bufRead_reply {o : BitVec 2} {n : Word} {s : State} (h : o.toNat + n.toNat ≤ 2) :
    bufRead (.reply o) n s =
      .ok (([s.ctx.reply.b0, s.ctx.reply.b1].drop o.toNat).take n.toNat) := by
  unfold bufRead
  exact if_pos h

/-- A buffer read that answers gives as many bytes as were asked for. -/
theorem bufRead_length {p : BufPtr} {n : Word} {s : State} {d : List Byte} (h : bufRead p n s = .ok d) :
    d.length = n.toNat := by
  cases p with
  | mem a =>
    rcases memRead_cases a n s with ⟨_, e⟩ | ⟨_, _, e⟩ <;> simp only [bufRead, e] at h <;> cases h
    exact readBytes_length ..
  | reply o =>
    simp only [bufRead] at h
    split at h
    · cases h; rename_i hb; simp; omega
    · cases h
  | null =>
    simp only [bufRead] at h
    split at h
    · cases h; rename_i hz; rw [hz]; rfl
    · cases h

/-- A buffer read stops with a BufferFault and nothing else. -/
theorem bufRead_error {p : BufPtr} {n : Word} {s : State} {b : Breach} (h : bufRead p n s = .error b) :
    b = .bufferFault p n := by
  cases p with
  | mem a => rcases memRead_cases a n s with ⟨_, e⟩ | ⟨_, _, e⟩ <;> simp only [bufRead, e] at h <;> cases h; rfl
  | reply o => simp only [bufRead] at h; split at h <;> cases h; rfl
  | null => simp only [bufRead] at h; split at h <;> cases h; rfl

/-- A buffer write that answers changes nothing but the memory. -/
theorem bufWrite_ok {p : BufPtr} {d : List Byte} {s t : State} (h : bufWrite p d s = .ok t) :
    ∃ a, p = .mem a ∧ (d = [] ∨ s.admits a (BitVec.ofNat 32 d.length) = true) ∧
      t = { s with mem := Memory.writeBytes s.mem a d } := by
  cases p with
  | mem a =>
    rcases memWrite_cases a d s with ⟨hd, e⟩ | ⟨_, _, e⟩ <;> simp only [bufWrite, e] at h <;> cases h
    exact ⟨a, rfl, hd, rfl⟩
  | reply o => simp [bufWrite] at h
  | null => simp [bufWrite] at h

/-- A buffer write stops with a BufferFault and nothing else. -/
theorem bufWrite_error {p : BufPtr} {d : List Byte} {s : State} {b : Breach} (h : bufWrite p d s = .error b) :
    b = .bufferFault p (BitVec.ofNat 32 d.length) := by
  cases p with
  | mem a => rcases memWrite_cases a d s with ⟨_, e⟩ | ⟨_, _, e⟩ <;> simp only [bufWrite, e] at h <;> cases h; rfl
  | reply o => simp only [bufWrite, Except.error.injEq] at h; exact h.symm
  | null => simp only [bufWrite, Except.error.injEq] at h; exact h.symm

/-! ### TBM_ADMIT -/

theorem every_word_listed : ∃ l : List Word, ∀ a : Word, a ∈ l :=
  ⟨(List.range (2 ^ 32)).map (BitVec.ofNat 32), fun a =>
    List.mem_map.2 ⟨a.toNat, List.mem_range.2 a.isLt, by simp⟩⟩

/-- TBM_ADMIT is OPEN as any predicate (R8), and every predicate is that of some state. -/
theorem every_predicate_admitted (P : Word → Word → Bool) (s : State) :
    ∃ rs : List Region, ∀ a n, { s with tbm := rs }.admits a n = P a n := by
  obtain ⟨l, hl⟩ := every_word_listed
  refine ⟨l.flatMap fun a => (l.filter (P a)).map (.exactly a), fun a n => ?_⟩
  rw [Bool.eq_iff_iff]
  simp only [State.admits, List.any_eq_true, List.mem_flatMap, List.mem_map, List.mem_filter]
  constructor
  · rintro ⟨r, ⟨b, -, m, ⟨-, hp⟩, rfl⟩, hc⟩
    obtain ⟨rfl, rfl⟩ : a = b ∧ n = m := by simpa [Region.covers] using hc
    exact hp
  · exact fun hp => ⟨.exactly a n, ⟨a, hl a, n, ⟨hl n, hp⟩, rfl⟩, by simp [Region.covers]⟩

/-! ### MPS0 and packet sizes -/

theorem mps0_half (m : Mps0) : m.half = BitVec.ofNat 16 m.word.toNat := by cases m <;> rfl

theorem mps0_pos (m : Mps0) : 8 ≤ m.word.toNat := by cases m <;> decide

theorem mps0_le (m : Mps0) : m.word.toNat ≤ 64 := by cases m <;> decide

theorem minWord_toNat (a b : Word) : (minWord a b).toNat = min a.toNat b.toNat := by
  unfold minWord
  split <;> rename_i h <;> rw [BitVec.le_def] at h <;> omega

theorem zlpNeeded_iff (t w m : Word) :
    zlpNeeded t w m = true ↔ 0 < t.toNat ∧ t.toNat % m.toNat = 0 ∧ t.toNat < w.toNat := by
  simp only [zlpNeeded, Bool.and_eq_true, decide_eq_true_eq, beq_iff_eq, BitVec.lt_def, and_assoc]
  constructor <;> rintro ⟨a, b, c⟩ <;> refine ⟨a, ?_, c⟩
  · simpa using congrArg BitVec.toNat b
  · apply BitVec.eq_of_toNat_eq; simpa using b

/-! ### The Endpoint Table -/

theorem ep_begin (s : State) (i : Fin 30) : s.begin.ep i = s.ep i := rfl

theorem registeredSlot_some {ep : Byte} {s : State} {i : Fin 30} :
    registeredSlot ep s = some i ↔ epSlot ep = some i ∧ (s.ep i).valid = true := by
  unfold registeredSlot
  cases h : epSlot ep with
  | none => simp
  | some j =>
    by_cases hv : (s.ep j).valid = true
    · simp only [hv, if_true, Option.some.injEq]
      constructor
      · rintro rfl; exact ⟨rfl, hv⟩
      · exact fun e => e.1
    · simp only [hv, Bool.false_eq_true, if_false, Option.some.injEq, reduceCtorEq, false_iff, not_and]
      rintro rfl; exact hv

theorem registeredSlot_none {ep : Byte} {s : State} :
    registeredSlot ep s = none ↔ ∀ i, epSlot ep = some i → (s.ep i).valid = false := by
  constructor
  · intro h i hi
    cases hv : (s.ep i).valid
    · rfl
    · rw [registeredSlot_some.2 ⟨hi, hv⟩] at h; cases h
  · intro h
    cases hr : registeredSlot ep s with
    | none => rfl
    | some i =>
      have ⟨hi, hv⟩ := registeredSlot_some.1 hr
      rw [h i hi] at hv; cases hv

theorem inSlot_some {ep : Byte} {s : State} {i : Fin 30} :
    inSlot ep s = some i ↔ isIn ep = true ∧ epSlot ep = some i ∧ (s.ep i).valid = true := by
  unfold inSlot
  split <;> simp_all [registeredSlot_some]

theorem outSlot_some {ep : Byte} {s : State} {i : Fin 30} :
    outSlot ep s = some i ↔ isIn ep = false ∧ epSlot ep = some i ∧ (s.ep i).valid = true := by
  unfold outSlot
  split <;> simp_all [registeredSlot_some]

theorem inSlot_none {ep : Byte} {s : State} :
    inSlot ep s = none ↔ isIn ep = false ∨ ∀ i, epSlot ep = some i → (s.ep i).valid = false := by
  unfold inSlot
  split <;> simp_all [registeredSlot_none]

theorem outSlot_none {ep : Byte} {s : State} :
    outSlot ep s = none ↔ isIn ep = true ∨ ∀ i, epSlot ep = some i → (s.ep i).valid = false := by
  unfold outSlot
  split <;> simp_all [registeredSlot_none]

/-- A free slot means the table is not full, so R122's table-full check never fires. -/
theorem registered_lt {s : State} {i : Fin 30} (h : (s.ep i).valid = false) : s.registered < 30 := by
  have hlen : s.et.toList.length = 30 := by simp
  have hmem : s.ep i ∈ s.et.toList := by
    rw [Vector.mem_toList_iff]; exact Vector.getElem_mem i.isLt
  have hle := List.length_filter_le (fun r => r.valid) s.et.toList
  rcases Nat.lt_or_ge s.registered 30 with hlt | hge
  · exact hlt
  · exfalso
    have heq : (s.et.toList.filter (·.valid)).length = s.et.toList.length := by
      unfold State.registered at hge; omega
    have := List.length_filter_eq_length_iff.1 heq _ hmem
    rw [h] at this; cases this

/-! ### Requests -/

/-- A standard request's meaning runs its handler. -/
theorem exec_request (i : Instr) (s : State) (h : i.kind = .request) : exec i s = operation i (handler i) s := by
  cases i <;> first | rfl | (simp [Instr.kind] at h)

/-- The dispatcher runs the handler of the request the setup packet selects. -/
theorem stdDispatch_of_request {s : State} {i : Instr} (h : decodeRequest s.ctx.setup = some i) :
    stdDispatch s = handler i s := by
  simp only [stdDispatch, h]

theorem stdDispatch_of_none {s : State} (h : decodeRequest s.ctx.setup = none) :
    stdDispatch s = .ok (abortStall .reqUnsupported s) := by
  simp only [stdDispatch, h]

end Sys2Proof.Machine
end

