-- ==== Sys2Proof/Laws/PerInstr.lean ====
section
/-! SUPPORT. Statements about every instruction as syntax, one lemma per constructor: the length of its encoding
(spec/30_encoding.md R67, R78). -/

namespace Sys2Proof.Laws.EncodedLength

/-- The length in bytes that the format of an instruction gives its encoding (R78; a setup packet has 8 bytes, R67). -/
def bytes : Instr → Nat
  | .evPower _ => 2
  | .evSuspend _ => 2
  | .evSof _ => 3
  | .evReset => 1
  | .evEp0Setup _ => 9
  | .evEp0Out data => 3 + data.length
  | .evEp0In => 1
  | .evOut _ data => 4 + data.length
  | .evIn _ => 2
  | .connect => 1
  | .epAdd _ _ _ _ => 9
  | .epRemove _ => 2
  | .epStall _ => 2
  | .epUnstall _ => 2
  | .readStart _ => 2
  | .readFinish _ _ _ => 10
  | .write _ _ _ => 10
  | .sofEnable => 1
  | .sofDisable => 1
  | .completeRequest _ _ _ => 10
  | .completeXferDone _ => 2
  | .completeSetConfiguration _ => 2
  | .completeSetInterface _ => 2
  | .abort => 1
  | .lock => 1
  | .unlock => 1
  | .assertLocked _ => 2
  | .getStatusDevice _ => 8
  | .getStatusInterface _ => 8
  | .getStatusEndpoint _ => 8
  | .clearFeatureDevice _ => 8
  | .clearFeatureEndpoint _ => 8
  | .setFeatureDevice _ => 8
  | .setFeatureEndpoint _ => 8
  | .setAddress _ => 8
  | .getDescriptor _ => 8
  | .getConfiguration _ => 8
  | .setConfiguration _ => 8
  | .getInterface _ => 8
  | .setInterface _ => 8

/-- The encoding has the length of its format. -/
def Statement (i : Instr) : Prop :=
  (encode i).length = bytes i

theorem evPower (powered : Bool) : Statement (.evPower powered) := rfl

theorem evSuspend (suspended : Bool) : Statement (.evSuspend suspended) := rfl

theorem evSof (frame : BitVec 11) : Statement (.evSof frame) := rfl

theorem evReset : Statement .evReset := rfl

theorem evEp0Setup (packet : SetupPacket) : Statement (.evEp0Setup packet) := rfl

theorem evEp0Out (data : List Byte) : Statement (.evEp0Out data) := by
  simp [Statement, bytes, encode, bytes16]; omega

theorem evEp0In : Statement .evEp0In := rfl

theorem evOut (ep : Byte) (data : List Byte) : Statement (.evOut ep data) := by
  simp [Statement, bytes, encode, bytes16]; omega

theorem evIn (ep : Byte) : Statement (.evIn ep) := rfl

theorem connect : Statement .connect := rfl

theorem epAdd (ep : Byte) (maxPacket : Half) (type : Byte) (token : Word) : Statement (.epAdd ep maxPacket type token) := rfl

theorem epRemove (ep : Byte) : Statement (.epRemove ep) := rfl

theorem epStall (ep : Byte) : Statement (.epStall ep) := rfl

theorem epUnstall (ep : Byte) : Statement (.epUnstall ep) := rfl

theorem readStart (ep : Byte) : Statement (.readStart ep) := rfl

theorem readFinish (ep : Byte) (buffer : Word) (maxSize : Word) : Statement (.readFinish ep buffer maxSize) := rfl

theorem write (ep : Byte) (buffer : Word) (size : Word) : Statement (.write ep buffer size) := rfl

theorem sofEnable : Statement .sofEnable := rfl

theorem sofDisable : Statement .sofDisable := rfl

theorem completeRequest (result : RequestResult) (data : Word) (size : Word) : Statement (.completeRequest result data size) := rfl

theorem completeXferDone (success : Bool) : Statement (.completeXferDone success) := rfl

theorem completeSetConfiguration (success : Bool) : Statement (.completeSetConfiguration success) := rfl

theorem completeSetInterface (success : Bool) : Statement (.completeSetInterface success) := rfl

theorem abort : Statement .abort := rfl

theorem lock : Statement .lock := rfl

theorem unlock : Statement .unlock := rfl

theorem assertLocked (context : Context) : Statement (.assertLocked context) := rfl

theorem getStatusDevice (req : RequestArgs) : Statement (.getStatusDevice req) := rfl

theorem getStatusInterface (req : RequestArgs) : Statement (.getStatusInterface req) := rfl

theorem getStatusEndpoint (req : RequestArgs) : Statement (.getStatusEndpoint req) := rfl

theorem clearFeatureDevice (req : RequestArgs) : Statement (.clearFeatureDevice req) := rfl

theorem clearFeatureEndpoint (req : RequestArgs) : Statement (.clearFeatureEndpoint req) := rfl

theorem setFeatureDevice (req : RequestArgs) : Statement (.setFeatureDevice req) := rfl

theorem setFeatureEndpoint (req : RequestArgs) : Statement (.setFeatureEndpoint req) := rfl

theorem setAddress (req : RequestArgs) : Statement (.setAddress req) := rfl

theorem getDescriptor (req : RequestArgs) : Statement (.getDescriptor req) := rfl

theorem getConfiguration (req : RequestArgs) : Statement (.getConfiguration req) := rfl

theorem setConfiguration (req : RequestArgs) : Statement (.setConfiguration req) := rfl

theorem getInterface (req : RequestArgs) : Statement (.getInterface req) := rfl

theorem setInterface (req : RequestArgs) : Statement (.setInterface req) := rfl

end Sys2Proof.Laws.EncodedLength
end

