-- ==== Sys2Proof/Laws/Transfer.lean ====
section
/-! SUPPORT. Everything the routines of the Control Transfer Engine and the standard-request handlers can do, once each. -/

namespace Sys2Proof.Machine

/-! ### SendNext and Respond -/

/-- SendNext hands one packet to the PHY, of at most MPS0 bytes, and moves the pointer and the count past it. -/
theorem sendNext_ok {s t : State} (h : sendNext s = .ok t) :
    ∃ d, bufRead s.ctx.ptr (minWord s.ctx.remaining s.cfg.mps0.word) s = .ok d ∧
      d.length = min s.ctx.remaining.toNat s.cfg.mps0.word.toNat ∧
      t = { s with ctx := { s.ctx with
              ptr := s.ctx.ptr.advance (minWord s.ctx.remaining s.cfg.mps0.word)
              remaining := s.ctx.remaining - minWord s.ctx.remaining s.cfg.mps0.word
              ep0InBusy := true } }.emit (.ep0Write d) := by
  simp only [sendNext] at h
  split at h
  · cases h
  · rename_i d e
    cases h
    exact ⟨d, e, by rw [bufRead_length e, minWord_toNat], rfl⟩

theorem sendNext_of_read {s : State} {d : List Byte}
    (h : bufRead s.ctx.ptr (minWord s.ctx.remaining s.cfg.mps0.word) s = .ok d) :
    sendNext s = .ok ({ s with ctx := { s.ctx with
              ptr := s.ctx.ptr.advance (minWord s.ctx.remaining s.cfg.mps0.word)
              remaining := s.ctx.remaining - minWord s.ctx.remaining s.cfg.mps0.word
              ep0InBusy := true } }.emit (.ep0Write d)) := by
  simp only [sendNext, h]

theorem sendNext_error {s : State} {b : Breach} (h : sendNext s = .error b) :
    bufRead s.ctx.ptr (minWord s.ctx.remaining s.cfg.mps0.word) s = .error b ∧
      b = .bufferFault s.ctx.ptr (minWord s.ctx.remaining s.cfg.mps0.word) := by
  simp only [sendNext] at h
  split at h
  · rename_i b' e
    cases h
    exact ⟨e, bufRead_error e⟩
  · cases h

/-- The state in which Respond sends the first packet of an IN data stage. -/
def sendReady (wLength : Half) (p : BufPtr) (size : Word) (notify : Bool) (s : State) : State :=
  { s with ctx := { s.ctx with
      ptr := p
      remaining := minWord size (wLength.setWidth 32)
      direction := .send
      notify := notify
      zlp := zlpNeeded (minWord size (wLength.setWidth 32)) (wLength.setWidth 32) s.cfg.mps0.word
      stage := .dataIn } }

/-- Respond with Send STALLs, or begins an IN data stage with its first packet. -/
theorem respondSend_cases (dirIn : Bool) (wl : Half) (p : BufPtr) (size : Word) (notify : Bool) (s : State) :
    ((wl = 0 ∨ dirIn = false) ∧
      respondSend dirIn wl p size notify s = .ok (abortStall .resultMismatch s)) ∨
    (wl ≠ 0 ∧ dirIn = true ∧
      respondSend dirIn wl p size notify s = sendNext (sendReady wl p size notify s)) := by
  by_cases h : wl = 0 ∨ dirIn = false
  · exact .inl ⟨h, if_pos h⟩
  · refine .inr ⟨fun e => h (.inl e), ?_, if_neg h⟩
    cases dirIn
    · exact absurd (.inr rfl) h
    · rfl

/-- Respond with Receive STALLs, or arms endpoint 0 for an OUT data stage of wLength bytes, for which there is room. -/
theorem respondReceive_cases (dirIn : Bool) (wl : Half) (p : BufPtr) (size : Word) (notify : Bool) (s : State) :
    respondReceive dirIn wl p size notify s = abortStall .resultMismatch s ∨
    (wl ≠ 0 ∧ dirIn = false ∧ wl.toNat ≤ size.toNat ∧
      respondReceive dirIn wl p size notify s =
        { s with ctx := { s.ctx with
            ptr := p
            remaining := wl.setWidth 32
            direction := .receive
            notify := notify
            stage := .dataOut
            ep0OutArmed := true } }.emit (.ep0Read s.cfg.mps0.half)) := by
  unfold respondReceive
  split
  · exact .inl rfl
  · rename_i h
    split
    · exact .inl rfl
    · rename_i hs
      refine .inr ⟨fun e => h (.inl e), ?_, ?_, rfl⟩
      · cases dirIn
        · rfl
        · exact absurd (.inr rfl) h
      · have hw := wl.isLt
        rw [BitVec.lt_def, BitVec.toNat_setWidth] at hs
        omega

/-- Respond with Success STALLs where the request has a data stage, or begins the status stage. -/
theorem respondSuccess_cases (wl : Half) (notify : Bool) (s : State) :
    (wl ≠ 0 ∧ respondSuccess wl notify s = abortStall .resultMismatch s) ∨
    (wl = 0 ∧ respondSuccess wl notify s =
      enterStatusIn { s with ctx := { s.ctx with notify := notify, direction := .none } }) := by
  unfold respondSuccess
  by_cases h : wl = 0
  · exact .inr ⟨h, if_neg (fun e => e h)⟩
  · exact .inl ⟨h, if_pos h⟩

/-! ### The ends of the stages -/

/-- ChangeState does nothing, or moves the lifecycle, tells the class, and clears the selection unless the device becomes
Configured. -/
theorem changeState_cases (new : Lifecycle) (s : State) :
    (new = s.lc ∧ changeState new s = s) ∨
    (new ≠ s.lc ∧ new = .configured ∧
      changeState new s = { s with lc := new, out := s.out ++ [.cbStateChange new] }) ∨
    (new ≠ s.lc ∧ new ≠ .configured ∧
      changeState new s = { s with
        lc := new
        configuration := 0
        iface := 0
        alternate := 0
        out := s.out ++ [.cbStateChange new] }) := by
  unfold changeState
  by_cases h : new = s.lc
  · exact .inl ⟨h, if_pos h⟩
  · rw [if_neg h]
    by_cases hc : new = .configured
    · exact .inr (.inl ⟨h, hc, if_pos hc⟩)
    · exact .inr (.inr ⟨h, hc, if_neg hc⟩)

/-- The status stage begins opposite to the data stage. -/
theorem statusStart_cases (s : State) :
    (s.ctx.direction = .send ∧ statusStart s = enterStatusOut s) ∨
    (s.ctx.direction ≠ .send ∧ statusStart s = enterStatusIn s) := by
  by_cases h : s.ctx.direction = .send
  · exact .inl ⟨h, if_pos h⟩
  · exact .inr ⟨h, if_neg h⟩

/-- The end of a data stage tells the class, or begins the status stage. -/
theorem dataStageDone_cases (s : State) :
    (s.ctx.notify = true ∧ dataStageDone s =
      { s with ctx := { s.ctx with awaiting := .xferDone } }.emit (.cbRequestXferDone s.ctx.setup)) ∨
    (s.ctx.notify = false ∧ dataStageDone s = statusStart s) := by
  unfold dataStageDone
  cases h : s.ctx.notify
  · exact .inr ⟨rfl, if_neg Bool.false_ne_true⟩
  · exact .inl ⟨rfl, if_pos rfl⟩

/-- The end of a status stage resets CTX, and applies a latched address. -/
theorem statusDone_cases (s : State) :
    (s.ctx.pendAddrValid = false ∧ statusDone s = clearContext s) ∨
    (s.ctx.pendAddrValid = true ∧ s.ctx.pendAddr ≠ 0 ∧ statusDone s =
      changeState .address ({ clearContext s with address := s.ctx.pendAddr }.emit
        (.phySetAddress s.ctx.pendAddr))) ∨
    (s.ctx.pendAddrValid = true ∧ s.ctx.pendAddr = 0 ∧ statusDone s =
      changeState .default ({ clearContext s with address := 0 }.emit (.phySetAddress 0))) := by
  unfold statusDone
  cases h : s.ctx.pendAddrValid
  · exact .inl ⟨rfl, if_neg Bool.false_ne_true⟩
  · simp only [if_true]
    by_cases ha : s.ctx.pendAddr = 0
    · exact .inr (.inr ⟨trivial, ha, by rw [if_neg (fun e => e ha), ha]⟩)
    · exact .inr (.inl ⟨trivial, ha, by rw [if_pos ha]⟩)

/-! ### The standard-request handlers -/

/-- The operands of a standard request. -/
def requestArgs : Instr → Option RequestArgs
  | .getStatusDevice r | .getStatusInterface r | .getStatusEndpoint r | .clearFeatureDevice r
  | .clearFeatureEndpoint r | .setFeatureDevice r | .setFeatureEndpoint r | .setAddress r
  | .getDescriptor r | .getConfiguration r | .setConfiguration r | .getInterface r | .setInterface r => some r
  | _ => none

/-- The request a setup packet selects has the packet's fields for operands. -/
theorem decodeRequest_args {p : SetupPacket} {i : Instr} (h : decodeRequest p = some i) :
    i.kind = .request ∧ requestArgs i = some p.args := by
  unfold decodeRequest at h
  split at h
  · cases h
  · split at h <;> cases h <;> exact ⟨rfl, rfl⟩

theorem addressed_iff (s : State) : addressed s = true ↔ s.lc = .address ∨ s.lc = .configured := by
  simp [addressed]

/-- Everything the handler of request `i`, with operands `r`, can answer in state `s`. -/
inductive Handled (i : Instr) (r : RequestArgs) (s : State) : Except Breach State → Prop where
  /-- A STALL with one of the dispatcher's causes. -/
  | stall (c : StallCause)
      (hc : c = .reqUnsupported ∨ c = .reqState ∨ c = .reqTarget ∨ c = .descAbsent ∨ c = .resultMismatch) :
      Handled i r s (.ok (abortStall c s))
  /-- An IN data stage from REPLY. -/
  | reply (v : Reply) (size : Word) (h0 : r.wLength ≠ 0) (hd : r.dirIn = true) (h2 : size.toNat ≤ 2) :
      Handled i r s
        (sendNext (sendReady r.wLength (.reply 0) size false { s with ctx := { s.ctx with reply := v } }))
  /-- An IN data stage of a descriptor. -/
  | descriptor (d : Descriptor) (h0 : r.wLength ≠ 0) (hd : r.dirIn = true) (hi : i = .getDescriptor r) :
      Handled i r s (sendNext (sendReady r.wLength (.mem d.addr) d.len false s))
  /-- The status stage, after the remote-wakeup flag was written. -/
  | wakeup (b : Bool) (h0 : r.wLength = 0) :
      Handled i r s (.ok (enterStatusIn
        { s with remoteWakeup := b, ctx := { s.ctx with notify := false, direction := .none } }))
  /-- The status stage, after a registered endpoint's halt was set. -/
  | halt (j : Fin 30) (h0 : r.wLength = 0) (hi : i = .setFeatureEndpoint r) (hj : registeredSlot (reqEp r) s = some j) :
      Handled i r s (.ok (enterStatusIn { stallEp (reqEp r) j s with
        ctx := { s.ctx with notify := false, direction := .none } }))
  /-- The status stage, after a registered endpoint's halt was cleared. -/
  | unhalt (j : Fin 30) (h0 : r.wLength = 0) (hi : i = .clearFeatureEndpoint r) (hj : registeredSlot (reqEp r) s = some j) :
      Handled i r s (.ok (enterStatusIn { unstallEp (reqEp r) j s with
        ctx := { s.ctx with notify := false, direction := .none } }))
  /-- The status stage, after an address was latched. -/
  | latch (h0 : r.wLength = 0) (hl : s.lc = .default ∨ s.lc = .address) :
      Handled i r s (.ok (enterStatusIn { s with ctx := { s.ctx with
        pendAddrValid := true, pendAddr := r.wValue.setWidth 7, notify := false, direction := .none } }))
  /-- SET_CONFIGURATION goes to the class. -/
  | configuration (h0 : r.wLength = 0) (hl : s.lc = .address ∨ s.lc = .configured) :
      Handled i r s (.ok ({ s with ctx := { s.ctx with awaiting := .setConfiguration } }.emit
        (.cbSetConfiguration (byteAt r.wValue 0))))
  /-- SET_INTERFACE goes to the class. -/
  | interface (h0 : r.wLength = 0) (hl : s.lc = .configured) :
      Handled i r s (.ok ({ s with ctx := { s.ctx with awaiting := .setInterface } }.emit
        (.cbSetInterface (byteAt r.wIndex 0) (byteAt r.wValue 0))))

theorem handled_stall {i : Instr} {r : RequestArgs} {s : State} (c : StallCause)
    (hc : c = .reqUnsupported ∨ c = .reqState ∨ c = .reqTarget ∨ c = .descAbsent ∨ c = .resultMismatch := by
      simp) : Handled i r s (.ok (abortStall c s)) :=
  .stall c hc

theorem abortStall_reply (c : StallCause) (v : Reply) (s : State) :
    abortStall c { s with ctx := { s.ctx with reply := v } } = abortStall c s := rfl

theorem handled_respond {i : Instr} {r : RequestArgs} {s : State} (v : Reply) (size : Word) (h2 : size.toNat ≤ 2) :
    Handled i r s
      (respondSend r.dirIn r.wLength (.reply 0) size false { s with ctx := { s.ctx with reply := v } }) := by
  rcases respondSend_cases r.dirIn r.wLength (.reply 0) size false { s with ctx := { s.ctx with reply := v } }
    with ⟨_, e⟩ | ⟨h0, hd, e⟩ <;> rw [e]
  · exact handled_stall .resultMismatch
  · exact .reply v size h0 hd h2

theorem handled_descriptor {r : RequestArgs} {s : State} (d : Option Descriptor) :
    Handled (.getDescriptor r) r s (sendDescriptor d r s) := by
  cases d with
  | none => exact handled_stall .descAbsent
  | some d =>
    rcases respondSend_cases r.dirIn r.wLength (.mem d.addr) d.len false s with ⟨_, e⟩ | ⟨h0, hd, e⟩ <;>
      simp only [sendDescriptor, e]
    · exact handled_stall .resultMismatch
    · exact .descriptor d h0 hd rfl

theorem handled_featureOfDevice {i : Instr} {r : RequestArgs} {s : State} (set : Bool) :
    Handled i r s (.ok (featureOfDevice set r s)) := by
  unfold featureOfDevice
  split
  · exact handled_stall .reqState
  split
  · exact handled_stall .reqUnsupported
  split
  · exact handled_stall .resultMismatch
  · rename_i h
    rcases respondSuccess_cases r.wLength false { s with remoteWakeup := set } with ⟨hn, _⟩ | ⟨h0, e⟩
    · exact absurd hn h
    · rw [e]; exact .wakeup set h0

/-- What a handler can do. -/
theorem handler_cases {i : Instr} {r : RequestArgs} (s : State) (h : requestArgs i = some r) :
    Handled i r s (handler i s) := by
  cases i <;> simp only [requestArgs, Option.some.injEq, reduceCtorEq] at h <;> subst h <;> simp only [handler]
  case getStatusDevice r =>
    unfold statusOfDevice
    split
    · exact handled_stall .reqState
    · exact handled_respond _ 2 (Nat.le_refl 2)
  case getStatusInterface r =>
    unfold statusOfInterface
    split
    · exact handled_stall .reqState
    split
    · exact handled_stall .reqState
    · exact handled_respond _ 2 (Nat.le_refl 2)
  case getStatusEndpoint r =>
    unfold statusOfEndpoint
    split
    · exact handled_stall .reqState
    split
    · exact handled_stall .reqTarget
    split
    · exact handled_respond _ 2 (Nat.le_refl 2)
    split
    · exact handled_stall .reqState
    split
    · exact handled_stall .reqTarget
    · exact handled_respond _ 2 (Nat.le_refl 2)
  case clearFeatureDevice r => exact handled_featureOfDevice false
  case setFeatureDevice r => exact handled_featureOfDevice true
  case clearFeatureEndpoint r =>
    unfold featureOfEndpoint
    split
    · exact handled_stall .reqState
    split
    · exact handled_stall .reqUnsupported
    split
    · exact handled_stall .reqTarget
    split
    · exact handled_stall .reqState
    split
    · exact handled_stall .reqTarget
    split
    · exact handled_stall .resultMismatch
    · rename_i j hj h0
      rcases respondSuccess_cases r.wLength false (unstallEp (reqEp r) j s) with ⟨hn, _⟩ | ⟨hw, e⟩
      · exact absurd hn h0
      · simp only [Bool.false_eq_true, if_false, e]; exact .unhalt j hw rfl hj
  case setFeatureEndpoint r =>
    unfold featureOfEndpoint
    split
    · exact handled_stall .reqState
    split
    · exact handled_stall .reqUnsupported
    split
    · exact handled_stall .reqTarget
    split
    · exact handled_stall .reqState
    split
    · exact handled_stall .reqTarget
    split
    · exact handled_stall .resultMismatch
    · rename_i j hj h0
      rcases respondSuccess_cases r.wLength false (stallEp (reqEp r) j s) with ⟨hn, _⟩ | ⟨hw, e⟩
      · exact absurd hn h0
      · simp only [if_true, e]
        have hc : (stallEp (reqEp r) j s).ctx = s.ctx := by
          unfold stallEp; simp only [setEp_ctx]; split <;> rfl
        rw [hc]; exact .halt j hw rfl hj
  case setAddress r =>
    unfold latchAddress
    split
    · exact handled_stall .reqState
    rename_i hl
    split
    · exact handled_stall .reqTarget
    split
    · exact handled_stall .resultMismatch
    · rename_i h0
      rcases respondSuccess_cases r.wLength false
        { s with ctx := { s.ctx with pendAddrValid := true, pendAddr := r.wValue.setWidth 7 } }
        with ⟨hn, _⟩ | ⟨hw, e⟩
      · exact absurd hn h0
      · rw [e]
        refine .latch hw ?_
        by_cases hd : s.lc = .default
        · exact .inl hd
        · exact .inr (Classical.byContradiction fun ha => hl ⟨hd, ha⟩)
  case getDescriptor r =>
    unfold describe
    split
    · exact handled_descriptor _
    · exact handled_descriptor _
    · split
      · exact handled_stall .reqUnsupported
      · exact handled_descriptor _
    · exact handled_stall .reqUnsupported
  case getConfiguration r =>
    unfold tellConfiguration
    split
    · exact handled_stall .reqState
    · exact handled_respond _ 1 (by decide)
  case setConfiguration r =>
    unfold askConfiguration
    split
    · exact handled_stall .reqState
    rename_i hl
    split
    · exact handled_stall .resultMismatch
    · rename_i h0
      refine .configuration (Classical.byContradiction h0) ((addressed_iff s).1 ?_)
      simpa using hl
  case getInterface r =>
    unfold tellInterface
    split
    · exact handled_stall .reqState
    · exact handled_respond _ 1 (by decide)
  case setInterface r =>
    unfold askInterface
    split
    · exact handled_stall .reqState
    rename_i hl
    split
    · exact handled_stall .resultMismatch
    · rename_i h0
      exact .interface (Classical.byContradiction h0) (Classical.byContradiction hl)

end Sys2Proof.Machine
end

