-- ==== Sys2Proof/Machine/Asm.lean ====
section
/-! DEFINITION. The textual syntax of the operations (spec/30_encoding.md R85): one operation as its mnemonic and its
operands, in the order of its format. Which numbers are written in hexadecimal, and the case of the digits, are the
model's choice (notes/assumptions/13.md). A standard request is written as the setup packet it is. -/

namespace Sys2Proof

/-- A hexadecimal digit. -/
def hexDigit (n : Nat) : String :=
  match n with
  | 0 => "0" | 1 => "1" | 2 => "2" | 3 => "3" | 4 => "4" | 5 => "5" | 6 => "6" | 7 => "7"
  | 8 => "8" | 9 => "9" | 10 => "A" | 11 => "B" | 12 => "C" | 13 => "D" | 14 => "E" | _ => "F"

/-- A byte as two hexadecimal digits, without `0x`. -/
def hexByte (b : Byte) : String :=
  hexDigit (b.toNat / 16) ++ hexDigit (b.toNat % 16)

/-- Bytes as a hexadecimal list without `0x`. -/
def hexBytes : List Byte → String
  | [] => ""
  | [b] => hexByte b
  | b :: rest => hexByte b ++ " " ++ hexBytes rest

/-- The `digits` lowest hexadecimal digits of a number. -/
def hexDigits (n : Nat) : Nat → String
  | 0 => ""
  | digits + 1 => hexDigits (n / 16) digits ++ hexDigit (n % 16)

/-- A data operand. -/
def dataText (d : List Byte) : String :=
  "[" ++ hexBytes d ++ "]"

/-- An endpoint address. -/
def epText (ep : Byte) : String :=
  "0x" ++ hexByte ep

/-- A buffer address. -/
def addressText (a : Word) : String :=
  "0x" ++ hexDigits a.toNat 8

/-- A number in decimal, by its digits, at most `fuel` of them. -/
def decimalDigits : Nat → Nat → String
  | 0, _ => ""
  | fuel + 1, n => if n < 10 then hexDigit n else decimalDigits fuel (n / 10) ++ hexDigit (n % 10)

/-- A 32-bit number in decimal. -/
def numberText (n : Nat) : String :=
  decimalDigits 10 n

/-- A Boolean operand. -/
def boolText (b : Bool) : String :=
  if b then "1" else "0"

/-- A context operand. -/
def contextText : Context → String
  | .thread => "Thread"
  | .interrupt => "Interrupt"

/-- A RequestResult operand. -/
def resultText : RequestResult → String
  | .receive => "Receive"
  | .send => "Send"
  | .success => "Success"
  | .failure => "Failure"
  | .passThrough => "PassThrough"

/-- An endpoint type by its name (R74); a code EP_ADD does not accept has none, and is written as a number. -/
def typeText (t : Byte) : String :=
  match t.toNat with
  | 1 => "Iso"
  | 2 => "Bulk"
  | 3 => "Interrupt"
  | n => numberText n

/-- `mnemonic ep, buffer, size`. -/
def bufferText (mnemonic : String) (ep : Byte) (a x : Word) : String :=
  mnemonic ++ " " ++ epText ep ++ ", " ++ addressText a ++ ", " ++ numberText x.toNat

/-- The line that writes an operation. -/
def Instr.text : Instr → String
  | .evPower b => "EV_POWER " ++ boolText b
  | .evSuspend b => "EV_SUSPEND " ++ boolText b
  | .evSof f => "EV_SOF 0x" ++ hexDigits f.toNat 3
  | .evReset => "EV_RESET"
  | .evEp0Setup p => "EV_EP0_SETUP " ++ hexBytes p.bytes
  | .evEp0Out d => "EV_EP0_OUT " ++ dataText d
  | .evEp0In => "EV_EP0_IN"
  | .evOut ep d => "EV_OUT " ++ epText ep ++ ", " ++ dataText d
  | .evIn ep => "EV_IN " ++ epText ep
  | .connect => "CONNECT"
  | .epAdd ep m t c =>
    "EP_ADD " ++ epText ep ++ ", " ++ numberText m.toNat ++ ", " ++ typeText t ++ ", " ++ numberText c.toNat
  | .epRemove ep => "EP_REMOVE " ++ epText ep
  | .epStall ep => "EP_STALL " ++ epText ep
  | .epUnstall ep => "EP_UNSTALL " ++ epText ep
  | .readStart ep => "READ_START " ++ epText ep
  | .readFinish ep a x => bufferText "READ_FINISH" ep a x
  | .write ep a x => bufferText "WRITE" ep a x
  | .sofEnable => "SOF_ENABLE"
  | .sofDisable => "SOF_DISABLE"
  | .completeRequest r a x =>
    "COMPLETE_REQUEST " ++ resultText r ++ ", " ++ addressText a ++ ", " ++ numberText x.toNat
  | .completeXferDone b => "COMPLETE_XFER_DONE " ++ boolText b
  | .completeSetConfiguration b => "COMPLETE_SET_CONFIGURATION " ++ boolText b
  | .completeSetInterface b => "COMPLETE_SET_INTERFACE " ++ boolText b
  | .abort => "ABORT"
  | .lock => "LOCK"
  | .unlock => "UNLOCK"
  | .assertLocked k => "ASSERT_LOCKED " ++ contextText k
  | .getStatusDevice r => "EV_EP0_SETUP " ++ hexBytes (encode (.getStatusDevice r))
  | .getStatusInterface r => "EV_EP0_SETUP " ++ hexBytes (encode (.getStatusInterface r))
  | .getStatusEndpoint r => "EV_EP0_SETUP " ++ hexBytes (encode (.getStatusEndpoint r))
  | .clearFeatureDevice r => "EV_EP0_SETUP " ++ hexBytes (encode (.clearFeatureDevice r))
  | .clearFeatureEndpoint r => "EV_EP0_SETUP " ++ hexBytes (encode (.clearFeatureEndpoint r))
  | .setFeatureDevice r => "EV_EP0_SETUP " ++ hexBytes (encode (.setFeatureDevice r))
  | .setFeatureEndpoint r => "EV_EP0_SETUP " ++ hexBytes (encode (.setFeatureEndpoint r))
  | .setAddress r => "EV_EP0_SETUP " ++ hexBytes (encode (.setAddress r))
  | .getDescriptor r => "EV_EP0_SETUP " ++ hexBytes (encode (.getDescriptor r))
  | .getConfiguration r => "EV_EP0_SETUP " ++ hexBytes (encode (.getConfiguration r))
  | .setConfiguration r => "EV_EP0_SETUP " ++ hexBytes (encode (.setConfiguration r))
  | .getInterface r => "EV_EP0_SETUP " ++ hexBytes (encode (.getInterface r))
  | .setInterface r => "EV_EP0_SETUP " ++ hexBytes (encode (.setInterface r))

end Sys2Proof
end

