-- ==== Sys2Proof/Tests/Slice0.lean ====
section
/-! SUPPORT. Tests. Words and expected results are the spec's (30_encoding.md, 95_test_vectors.md, and the examples of the
rules named). Each `witness_<statement>` shows, for each clause of a statement of Obligations.lean, a state and operands that
meet its hypotheses, at the edges of their ranges, with the result the spec gives there. -/

namespace Sys2Proof.Tests

open Sys2Proof.Machine Sys2Proof.Safety Sys2Proof.Claims

/-! ### Well-formedness -/

theorem dataFits_replicate (n : Nat) : dataFits (List.replicate n 0) = decide (n < 65536) := by
  rw [dataFits, List.length_replicate]

theorem test_illFormed_evEp0Out : Instr.wellFormed (.evEp0Out (List.replicate 65536 0)) = false := by
  rw [Instr.wellFormed, dataFits_replicate]; decide

theorem test_illFormed_evOut : Instr.wellFormed (.evOut 1 (List.replicate 65536 0)) = false := by
  rw [Instr.wellFormed, dataFits_replicate]; decide

theorem witness_DecodeEncode : Instr.wellFormed (.evEp0Out (List.replicate 65535 0)) = true ∧
    Instr.wellFormed (.evOut 1 (List.replicate 65535 0)) = true ∧ Instr.wellFormed .abort = true := by
  rw [Instr.wellFormed, dataFits_replicate, Instr.wellFormed, dataFits_replicate]; decide

/-! ### Decoding: words written out from R67, R75, R78, R79, R83 -/

/-- A record decodes to an operation. -/
def reads (bs : List Byte) (i : Instr) : Bool :=
  decodeWord .operation bs == some i

/-- A record is refused for a reason. -/
def refuses (bs : List Byte) (e : BadRecord) : Bool :=
  match decodeRecord bs with
  | .ok _ => false
  | .error f => f == e

theorem test_decode_bus_events :
    reads [0x00, 0x01] (.evPower true) ∧ reads [0x01, 0x00] (.evSuspend false) ∧
    reads [0x02, 0x23, 0x01] (.evSof 0x123) ∧ reads [0x02, 0xFF, 0x07] (.evSof 0x7FF) ∧ reads [0x03] .evReset := by decide

theorem test_decode_ep0_events :
    reads [0x04, 0x02, 0x01, 0x00, 0x00, 0x81, 0x00, 0x00, 0x00]
      (.evEp0Setup ⟨0x02, 0x01, 0x00, 0x00, 0x81, 0x00, 0x00, 0x00⟩) ∧
    reads [0x05, 0x03, 0x00, 0x01, 0x02, 0x03] (.evEp0Out [0x01, 0x02, 0x03]) ∧ reads [0x06] .evEp0In := by decide

theorem test_decode_endpoint_events :
    reads [0x07, 0x02, 0x03, 0x00, 0xAA, 0xBB, 0xCC] (.evOut 0x02 [0xAA, 0xBB, 0xCC]) ∧
    reads [0x07, 0x02, 0x00, 0x00] (.evOut 0x02 []) ∧ reads [0x08, 0x81] (.evIn 0x81) := by decide

theorem test_decode_endpoint_commands :
    reads [0x11, 0x81, 0x40, 0x00, 0x02, 0x07, 0x00, 0x00, 0x00] (.epAdd 0x81 64 2 7) ∧
    reads [0x11, 0x8F, 0x00, 0x02, 0x01, 0x05, 0x00, 0x00, 0x00] (.epAdd 0x8F 512 1 5) ∧
    reads [0x12, 0x02] (.epRemove 0x02) ∧ reads [0x13, 0x81] (.epStall 0x81) ∧ reads [0x14, 0x81] (.epUnstall 0x81) ∧
    reads [0x15, 0x02] (.readStart 0x02) ∧
    reads [0x16, 0x02, 0x00, 0x40, 0x00, 0x00, 0x40, 0x00, 0x00, 0x00] (.readFinish 0x02 0x4000 64) ∧
    reads [0x17, 0x81, 0x00, 0x50, 0x00, 0x00, 0x03, 0x00, 0x00, 0x00] (.write 0x81 0x5000 3) := by decide

theorem test_decode_thread_commands :
    reads [0x10] .connect ∧ reads [0x18] .sofEnable ∧ reads [0x19] .sofDisable ∧ reads [0x1E] .abort ∧ reads [0x1F] .lock ∧
    reads [0x20] .unlock ∧ reads [0x21, 0x00] (.assertLocked .thread) ∧ reads [0x21, 0x01] (.assertLocked .interrupt) := by
  decide

theorem test_decode_completions :
    reads [0x1A, 0x00, 0x00, 0x30, 0x00, 0x00, 0x0C, 0x00, 0x00, 0x00] (.completeRequest .receive 0x3000 12) ∧
    reads [0x1A, 0x01, 0x00, 0x20, 0x00, 0x00, 0x04, 0x00, 0x00, 0x00] (.completeRequest .send 0x2000 4) ∧
    reads [0x1A, 0x02, 0, 0, 0, 0, 0, 0, 0, 0] (.completeRequest .success 0 0) ∧
    reads [0x1A, 0x03, 0, 0, 0, 0, 0, 0, 0, 0] (.completeRequest .failure 0 0) ∧
    reads [0x1A, 0x04, 0, 0, 0, 0, 0, 0, 0, 0] (.completeRequest .passThrough 0 0) ∧
    reads [0x1B, 0x01] (.completeXferDone true) ∧ reads [0x1C, 0x01] (.completeSetConfiguration true) ∧
    reads [0x1D, 0x00] (.completeSetInterface false) := by decide

/-- Setup packets (V2.5): the key selects the request whichever the direction; a reserved recipient, type or code selects
none. -/
theorem test_decode_requests :
    decodeRequest ⟨0x80, 0x00, 0, 0, 0, 0, 2, 0⟩ = some (.getStatusDevice ⟨true, 0, 0, 2⟩) ∧
    decodeRequest ⟨0x81, 0x00, 0, 0, 0, 0, 2, 0⟩ = some (.getStatusInterface ⟨true, 0, 0, 2⟩) ∧
    decodeRequest ⟨0x82, 0x00, 0, 0, 0x81, 0, 2, 0⟩ = some (.getStatusEndpoint ⟨true, 0, 0x81, 2⟩) ∧
    decodeRequest ⟨0x00, 0x01, 1, 0, 0, 0, 0, 0⟩ = some (.clearFeatureDevice ⟨false, 1, 0, 0⟩) ∧
    decodeRequest ⟨0x02, 0x01, 0, 0, 0x81, 0, 0, 0⟩ = some (.clearFeatureEndpoint ⟨false, 0, 0x81, 0⟩) ∧
    decodeRequest ⟨0x00, 0x03, 1, 0, 0, 0, 0, 0⟩ = some (.setFeatureDevice ⟨false, 1, 0, 0⟩) ∧
    decodeRequest ⟨0x02, 0x03, 0, 0, 0x02, 0, 0, 0⟩ = some (.setFeatureEndpoint ⟨false, 0, 2, 0⟩) ∧
    decodeRequest ⟨0x00, 0x05, 5, 0, 0, 0, 0, 0⟩ = some (.setAddress ⟨false, 5, 0, 0⟩) ∧
    decodeRequest ⟨0x80, 0x06, 0, 1, 0, 0, 0x40, 0⟩ = some (.getDescriptor ⟨true, 0x100, 0, 64⟩) ∧
    decodeRequest ⟨0x80, 0x08, 0, 0, 0, 0, 1, 0⟩ = some (.getConfiguration ⟨true, 0, 0, 1⟩) ∧
    decodeRequest ⟨0x00, 0x09, 1, 0, 0, 0, 0, 0⟩ = some (.setConfiguration ⟨false, 1, 0, 0⟩) ∧
    decodeRequest ⟨0x81, 0x0A, 0, 0, 0, 0, 1, 0⟩ = some (.getInterface ⟨true, 0, 0, 1⟩) ∧
    decodeRequest ⟨0x01, 0x0B, 1, 0, 0, 0, 0, 0⟩ = some (.setInterface ⟨false, 1, 0, 0⟩) := by decide

theorem test_decode_no_request :
    decodeRequest ⟨0x00, 0x07, 0, 1, 0, 0, 0x12, 0⟩ = none ∧ decodeRequest ⟨0x82, 0x0C, 0, 0, 0x81, 0, 2, 0⟩ = none ∧
    decodeRequest ⟨0xC0, 0x01, 0, 0, 0, 0, 4, 0⟩ = none ∧ decodeRequest ⟨0x83, 0x00, 0, 0, 0, 0, 2, 0⟩ = none ∧
    decodeRequest ⟨0xA1, 0x01, 0, 0, 0, 0, 4, 0⟩ = none := by decide

/-- R80: each reason, at the first value refused and beside the last one accepted; both halves of `DecoderRefusals`. -/
theorem witness_DecoderRefusals :
    (ReservedOp 0x09 ∧ ReservedOp 0x0F ∧ ReservedOp 0x22 ∧ ReservedOp 0xFF ∧ ¬ReservedOp 0x08 ∧ ¬ReservedOp 0x21) ∧
    refuses [] .shortRecord ∧ (refuses [0x09] .reservedOp ∧ refuses [0x22] .reservedOp ∧ refuses [0xFF] .reservedOp) ∧
    (2 + 1 < recordNeeds 0x04 [0x80, 0x06] ∧ refuses [0x04, 0x80, 0x06] .shortRecord) ∧
    (3 + 1 < recordNeeds 0x05 [0x04, 0x00, 0xAA] ∧ refuses [0x05, 0x04, 0x00, 0xAA] .shortRecord) ∧
    (0 + 1 < recordNeeds 0x08 [] ∧ refuses [0x08] .shortRecord) ∧
    (recordNeeds 0x00 [2] ≤ 1 + 1 ∧ operandFault 0x00 [2] = some .badBoolean ∧ refuses [0x00, 2] .badBoolean) ∧
    (recordNeeds 0x21 [2] ≤ 1 + 1 ∧ operandFault 0x21 [2] = some .badContext ∧ refuses [0x21, 2] .badContext) ∧
    (recordNeeds 0x02 [0, 8] ≤ 2 + 1 ∧ operandFault 0x02 [0, 8] = some .badFrame ∧ refuses [0x02, 0, 8] .badFrame) ∧
    (operandFault 0x1A [5, 0, 0, 0, 0, 0, 0, 0, 0] = some .badResult ∧
      refuses [0x1A, 5, 0, 0, 0, 0, 0, 0, 0, 0] .badResult) ∧
    (recordNeeds 0x02 [0xFF, 7] ≤ 2 + 1 ∧ operandFault 0x02 [0xFF, 7] = none) := by
  unfold ReservedOp; decide

/-- R73: the first and the last slot, and addresses with none (V2.6). -/
theorem test_endpoint_slots :
    epSlot 0x01 = some 0 ∧ epSlot 0x81 = some 1 ∧ epSlot 0x02 = some 2 ∧ epSlot 0x0F = some 28 ∧ epSlot 0x8F = some 29 ∧
    epSlot 0x00 = none ∧ epSlot 0x80 = none ∧ epSlot 0x11 = none ∧ epSlot 0xF1 = none := by decide

/-- R86: pseudo-operations (V1.2, V1.6, P1). -/
theorem test_pseudo :
    encode (Pseudo.expand (.setAddress 5)) = [0x04, 0x00, 0x05, 0x05, 0, 0, 0, 0, 0] ∧
    encode (Pseudo.expand (.clearHalt 0x81)) = [0x04, 0x02, 0x01, 0x00, 0x00, 0x81, 0x00, 0x00, 0x00] ∧
    encode (Pseudo.expand (.getDescriptor 1 0 64)) = [0x04, 0x80, 0x06, 0x00, 0x01, 0x00, 0x00, 0x40, 0x00] ∧
    encode (Pseudo.expand .pass) = [0x1A, 0x04, 0, 0, 0, 0, 0, 0, 0, 0] ∧
    encode (Pseudo.expand .statusOut) = [0x05, 0x00, 0x00] := by decide

/-- R85's examples, but for the case of the digits (notes/assumptions/13.md). -/
theorem test_text :
    Instr.text (Pseudo.expand (.getDescriptor 1 0 64)) = "EV_EP0_SETUP 80 06 00 01 00 00 40 00" ∧
    Instr.text (.evEp0Out []) = "EV_EP0_OUT []" ∧ Instr.text (.evOut 0x01 [0xAA, 0xBB]) = "EV_OUT 0x01, [AA BB]" ∧
    Instr.text (.epAdd 0x81 64 2 7) = "EP_ADD 0x81, 64, Bulk, 7" ∧
    Instr.text (.assertLocked .thread) = "ASSERT_LOCKED Thread" := by decide

/-! ### Small states, and what a step gives -/

/-- The start states of 95_test_vectors.md, with MPS0 = 8 and the parameters its vectors name. -/
def device (lc : Lifecycle) : State :=
  { State.reset with
    lc := lc
    configuration := if lc = .configured then 1 else 0
    address := if lc = .address ∨ lc = .configured then 5 else 0
    cfg := ⟨.b8, true, some ⟨0x1000, 18⟩, [(0, ⟨0x1100, 32⟩)], [(0, ⟨0x1200, 4⟩)]⟩
    tbm := [.span 0x1000 0x5000]
    phyAnswers := [true] }

/-- The setup packet `p` has been taken, and the class has not answered. -/
def asked (p : SetupPacket) (s : State) : State :=
  { s with ctx := { Ctx.reset with setup := p, deferred := true, awaiting := .request } }

/-- An IN data stage of a 64-byte request, one packet outstanding. -/
def sending (p : BufPtr) (remaining : Word) (zlp notify : Bool) (s : State) : State :=
  { s with ctx := { Ctx.reset with
      setup := ⟨0x80, 6, 0, 1, 0, 0, 0x40, 0⟩
      ptr := p
      remaining := remaining
      direction := .send
      zlp := zlp
      notify := notify
      stage := .dataIn
      ep0InBusy := true } }

/-- An OUT data stage of a 12-byte request to 0x3000, as in P5. -/
def receiving (remaining : Word) (s : State) : State :=
  { s with ctx := { Ctx.reset with
      setup := ⟨0x21, 9, 0, 2, 0, 0, 12, 0⟩
      ptr := .mem (0x3000 + (12 - remaining))
      remaining := remaining
      direction := .receive
      notify := true
      stage := .dataOut
      ep0OutArmed := true } }

/-- A status stage: the device's packet is outstanding (`true`), or the host's is awaited. -/
def ending (deviceSends : Bool) (latched : Option (BitVec 7)) (s : State) : State :=
  { s with ctx := { Ctx.reset with
      stage := .status
      ep0InBusy := deviceSends
      ep0OutArmed := !deviceSends
      pendAddrValid := latched.isSome
      pendAddr := latched.getD 0 } }

/-- A registered bulk endpoint with the token 7 and MPS 64. -/
def bulk (pending : Byte) (stalled : Bool) (rx : Option (List Byte)) : EpRecord :=
  ⟨true, 7, 64, if stalled then 6 else 2, pending, rx⟩

/-- The step is taken, emits these outputs and returns this. -/
def gives (o : Host.Outcome State Fault Refusal) (os : List Output) (r : Option Ret := none) : Bool :=
  match o with
  | .next t => t.out == os && t.ret == r
  | .fault _ | .refused _ => false

/-- The step is taken and ends in AbortStall with this cause code. -/
def stalls (o : Host.Outcome State Fault Refusal) (c : Byte) : Bool :=
  match o with
  | .next t => t.out == [.ep0Stall] && t.stallCause == c && t.ep0Stalled && t.ctx == Ctx.reset
  | .fault _ | .refused _ => false

/-- The step is taken to a state with this property. -/
def leaves (o : Host.Outcome State Fault Refusal) (p : State → Bool) : Bool :=
  match o with
  | .next t => p t
  | .fault _ | .refused _ => false

/-- The step faults so. -/
def faults (o : Host.Outcome State Fault Refusal) (f : Fault) : Bool :=
  match o with
  | .fault g => g == f
  | .next _ | .refused _ => false

/-! ### The step -/

/-- A record taken, and one refused (V2.7). -/
theorem witness_StepRunsOperation :
    nextInput { device .attached with inputs := [.record [0x10]] } = some (.record [0x10], []) ∧
    gives (step { device .attached with inputs := [.record [0x10]] }) [.phyConnect, .cbStateChange .powered] ∧
    nextInput { device .attached with inputs := [.record [0x00, 0x02], .record [0x10]] } =
      some (.record [0x00, 0x02], [.record [0x10]]) ∧
    refuses [0x00, 0x02] .badBoolean := by decide

/-- PASS of a request a row selects, of one whose descriptor lies outside TBM_ADMIT, and of one that none selects (V2.5). -/
theorem witness_PassThroughRunsRequest :
    (asked ⟨0, 5, 5, 0, 0, 0, 0, 0⟩ (device .default)).ctx.awaiting = .request ∧
    decodeRequest ⟨0, 5, 5, 0, 0, 0, 0, 0⟩ = some (.setAddress ⟨false, 5, 0, 0⟩) ∧
    gives (exec (.completeRequest .passThrough 0 0) (asked ⟨0, 5, 5, 0, 0, 0, 0, 0⟩ (device .default))) [.ep0Write []] ∧
    decodeRequest ⟨0x80, 6, 0, 1, 0, 0, 0x40, 0⟩ = some (.getDescriptor ⟨true, 0x100, 0, 64⟩) ∧
    faults (exec (.completeRequest .passThrough 0 0)
        (asked ⟨0x80, 6, 0, 1, 0, 0, 0x40, 0⟩ { device .default with tbm := [] }))
      (.bufferFault (.completeRequest .passThrough 0 0) (.mem 0x1000) 8) ∧
    decodeRequest ⟨0, 7, 0, 1, 0, 0, 0x12, 0⟩ = none ∧
    stalls (exec (.completeRequest .passThrough 0 0) (asked ⟨0, 7, 0, 1, 0, 0, 0x12, 0⟩ (device .configured))) 2 := by decide

/-- One range admitted, and neither its parts nor its shift (R8: TBM_ADMIT is any predicate). -/
theorem test_admits_exactly :
    { device .default with tbm := [.exactly 0x2000 4] }.admits 0x2000 4 ∧
    ¬{ device .default with tbm := [.exactly 0x2000 4] }.admits 0x2000 3 ∧
    ¬{ device .default with tbm := [.exactly 0x2000 4] }.admits 0x2001 4 ∧
    { device .default with tbm := [.span 0xFFFFFFFE 4] }.admits 0xFFFFFFFF 3 ∧
    ¬{ device .default with tbm := [.span 0xFFFFFFFE 4] }.admits 0xFFFFFFFF 4 := by decide

/-- V2.8: at depth 1 EV_RESET stays pending and EP_ADD is taken; at depth 0 EV_RESET is taken. -/
theorem witness_GuardHoldsEvents :
    leaves (step { device .configured with lockDepth := 1, inputs := [.record [0x03], .record [0x12, 0x02]] })
      (fun t => t.inputs == [.record [0x03]] && t.lc == .configured && t.ret == some (.bool false)) ∧
    leaves (step { device .configured with lockDepth := 1, inputs := [.record [0x00, 0x02], .record [0x12, 0x02]] })
      (fun t => t.inputs == [.record [0x00, 0x02]]) ∧
    leaves (step { device .configured with lockDepth := 1, inputs := [.record [0x03]] })
      (fun t => t.inputs == [.record [0x03]] && t.lc == .configured) ∧
    decodeWord .operation [0x08, 0x81] = some (.evIn 0x81) ∧ Instr.isEvent (.evIn 0x81) = true ∧
    gives (step { device .configured with inputs := [.record [0x03]] }) [.cbReset, .cbStateChange .default] := by decide

theorem witness_WorldBetweenSteps :
    nextInput (device .address) = none ∧
    nextInput { device .address with inputs := [.callerStore 0xFFFFFFFF [1, 2]] } = some (.callerStore 0xFFFFFFFF [1, 2], []) ∧
    Memory.wf (device .address).mem = true ∧
    leaves (step { device .address with inputs := [.callerStore 0xFFFFFFFF [1, 2]] })
      (fun t => t.mem == [(0, 2), (0xFFFFFFFF, 1)]) ∧
    leaves (step { device .address with inputs := [.callerLend []] }) (fun t => t.tbm == []) := by decide

/-! ### The invariants -/

/-- A state in which no transfer is in progress and no endpoint is registered meets the invariants, where its address and
configuration fit its lifecycle state. -/
theorem runInv_device (lc : Lifecycle) : RunInv (device lc) where
  i1 := by unfold ConfiguredIff; cases lc <;> decide
  i2 := by unfold HasAddress; cases lc <;> decide
  i3 := by unfold AwaitsInSetup; cases lc <;> decide
  i4 := by unfold SetupIdle; cases lc <;> decide
  i5 := by unfold OneFlag; cases lc <;> decide
  i6 := by unfold XferDoneAtEnd; cases lc <;> decide
  i7 := by unfold TableIdle; cases lc <;> decide
  i8 := by unfold RemainingFits; cases lc <;> decide
  configurationAsked := by unfold ConfigurationAskedInState; cases lc <;> decide
  askedWithoutData := by unfold AskedWithoutData; cases lc <;> decide
  latchedInStatus := by unfold LatchedInStatus; cases lc <;> decide
  flagsFitStage := by unfold FlagsFitStage; cases lc <;> decide

/-- The status stage of SET_ADDRESS 5 (V1.2) meets the invariants. -/
theorem runInv_latched : RunInv (ending true (some 5) (device .default)) where
  i1 := by unfold ConfiguredIff; decide
  i2 := by unfold HasAddress; decide
  i3 := by unfold AwaitsInSetup; decide
  i4 := by unfold SetupIdle; decide
  i5 := by unfold OneFlag; decide
  i6 := by unfold XferDoneAtEnd; decide
  i7 := by unfold TableIdle; decide
  i8 := by unfold RemainingFits; decide
  configurationAsked := by unfold ConfigurationAskedInState; decide
  askedWithoutData := by unfold AskedWithoutData; decide
  latchedInStatus := by unfold LatchedInStatus; decide
  flagsFitStage := by unfold FlagsFitStage; decide

theorem pointer_device (lc : Lifecycle) : PointerInBounds (device lc) :=
  ⟨fun h => absurd h (by cases lc <;> decide), fun h => absurd h (by cases lc <;> decide)⟩

theorem flags_device (lc : Lifecycle) : FlagsWellFormed (device lc) := by
  unfold FlagsWellFormed; cases lc <;> decide

theorem idle_device (lc : Lifecycle) : StalledIdle (device lc) := by
  unfold StalledIdle; cases lc <;> decide

theorem witness_InvariantsAtReset : Started State.reset ∧ Reachable State.reset :=
  ⟨rfl, .start rfl⟩

/-- A device whose next input is CONNECT. -/
def connecting : State :=
  { device .attached with inputs := [.record [0x10]] }

/-- The premises of StepKeepsInvariants, StepKeepsMemoryForm and StepKeepsPointerAndFlags, in one state. -/
theorem witness_StepKeeps :
    RunInv connecting ∧ PointerInBounds connecting ∧ FlagsWellFormed connecting ∧ StalledIdle connecting ∧ Memory.wf connecting.mem = true ∧
    leaves (step connecting) (fun t => t.lc == .powered && Memory.wf t.mem) = true := by
  have h := runInv_device .attached
  refine ⟨?_, pointer_device .attached, flags_device .attached, idle_device .attached, rfl, by decide⟩
  exact { i1 := h.i1, i2 := h.i2, i3 := h.i3, i4 := h.i4, i5 := h.i5, i6 := h.i6, i7 := h.i7, i8 := h.i8,
          configurationAsked := h.configurationAsked, askedWithoutData := h.askedWithoutData,
          latchedInStatus := h.latchedInStatus, flagsFitStage := h.flagsFitStage }

theorem witness_ReachableStatesKeepRule47 : ∃ t, Reachable t ∧ t.lc = .powered :=
  ⟨_, .step (s := { State.reset with inputs := [.record [0x10]] }) (.start rfl) (by rfl), by rfl⟩

/-- An event that faults with the pointer in bounds: the next packet of an IN data stage has left TBM_ADMIT (R112 (f)). -/
theorem witness_EventsFaultOnlyOnBuffers :
    PointerInBounds (sending (.mem 0xF000) 10 false true (device .configured)) ∧ Instr.isEvent .evEp0In = true ∧
    faults (exec .evEp0In (sending (.mem 0xF000) 10 false true (device .configured)))
      (.bufferFault .evEp0In (.mem 0xF000) 8) = true :=
  ⟨⟨fun _ => .inl ⟨_, rfl⟩, fun h => absurd h (by decide)⟩, by decide, by decide⟩

/-- V2.6 and V2.8: each fault, from the operation that raises it. -/
theorem witness_FaultsByOperation :
    faults (exec .lock { device .address with lockDepth := 0xFFFFFFFF }) (.guardOverflow .lock) ∧
    faults (exec .unlock (device .address)) (.unlockUnderflow .unlock) ∧
    faults (exec (.assertLocked .thread) (device .address)) (.guardNotHeld (.assertLocked .thread)) ∧
    faults (exec (.write 0x81 0xF000 4) (withEp 1 (bulk 0 false none) (device .configured)))
      (.bufferFault (.write 0x81 0xF000 4) (.mem 0xF000) 4) := by decide

/-! ### The whole-machine statements: a step of each kind from a state that meets the invariants -/

theorem witness_StallsRecordTheirCause :
    RunInv (device .configured) ∧ stalls (exec .evEp0In (device .configured)) 10 = true ∧
    leaves (exec .connect { device .configured with stallCause := 10 }) (fun t => t.stallCause == 10) = true :=
  ⟨runInv_device _, by decide, by decide⟩

theorem witness_LifecycleTransitions :
    RunInv (device .attached) ∧ leaves (exec .connect (device .attached)) (fun t => t.lc == .powered) = true ∧
    leaves (exec .connect (device .powered)) (fun t => t.lc == .powered && t.out == [.phyConnect]) = true :=
  ⟨runInv_device _, by decide, by decide⟩

/-- A step that ends the transfer, one that STALLs it, and one that ends its data stage. -/
theorem witness_StageTransitions :
    RunInv (ending true (some 5) (device .default)) ∧ (ending true (some 5) (device .default)).ctx.stage = .status ∧
    leaves (exec .evEp0In (ending true (some 5) (device .default)))
      (fun t => t.ctx.stage == .setup && t.out != [.ep0Stall]) = true ∧
    leaves (exec (.evEp0Out []) (ending true (some 5) (device .default)))
      (fun t => t.ctx.stage == .setup && t.out == [.ep0Stall]) = true ∧
    StageChange .evEp0In (sending (.mem 0x1012) 0 false false (device .default)) (ending false none (device .default)) ∧
    ¬StageChange .evEp0In (sending (.mem 0x1010) 2 false false (device .default)) (device .default) :=
  ⟨runInv_latched, by decide, by decide, by decide, ⟨rfl, rfl, rfl, rfl⟩, fun h => Bool.noConfusion h.1⟩

/-- V1.2, step 3, and a bus reset from Address. -/
theorem witness_AddressTiming :
    RunInv (ending true (some 5) (device .default)) ∧
    leaves (exec .evEp0In (ending true (some 5) (device .default)))
      (fun t => t.out == [.phySetAddress 5, .cbStateChange .address] && t.address == 5 && t.ctx == Ctx.reset) = true ∧
    RunInv (device .address) ∧ leaves (exec .evReset (device .address)) (fun t => t.address == 0) = true :=
  ⟨runInv_latched, by decide, runInv_device _, by decide⟩

theorem witness_OnlyTheNamedWriters :
    leaves (exec .sofEnable (device .configured)) (fun t => t.mem == [] && t.lockDepth == 0) ∧
    leaves (exec .lock (device .configured)) (fun t => t.lockDepth == 1) ∧
    leaves (exec (.evEp0Out [1]) (receiving 1 (device .configured))) (fun t => t.mem == [(0x300B, 1)]) := by decide

/-- An operation of another endpoint, and SET_FEATURE(ENDPOINT_HALT), the one control transfer that changes the table. -/
theorem witness_ControlAndTableAreApart :
    OnEndpoints (.epStall 0x81) ∧ leaves (exec (.epStall 0x81) (withEp 1 (bulk 0 false none) (device .configured)))
      (fun t => t.et[1] == bulk 0 true none) = true ∧
    ¬OnEndpoints (.completeRequest .passThrough 0 0) ∧
    decodeRequest ⟨2, 3, 0, 0, 0x81, 0, 0, 0⟩ = some (.setFeatureEndpoint ⟨false, 0, 0x81, 0⟩) ∧
    leaves (exec (.completeRequest .passThrough 0 0)
        (asked ⟨2, 3, 0, 0, 0x81, 0, 0, 0⟩ (withEp 1 (bulk 1 false none) (device .configured))))
      (fun t => t.et[1] == bulk 0 true none) = true :=
  ⟨trivial, by decide, id, by decide, by decide⟩

theorem witness_PacketsFitTheirEndpoint :
    leaves (exec .evEp0In (sending (.mem 0x1008) 10 false false (device .default)))
      (fun t => t.out == [.ep0Write [0, 0, 0, 0, 0, 0, 0, 0]]) ∧
    gives (exec (.write 0x81 0x5000 3) (withEp 1 (bulk 0 false none) (device .configured)))
      [.endpointWrite 0x81 [0, 0, 0]] (some (.bool true)) := by decide

/-- V2.8. -/
theorem witness_UnlockReleasesOneLevel :
    leaves (exec .unlock { device .default with lockDepth := 1 }) (fun t => t.lockDepth == 0 && t.out == []) ∧
    faults (exec .unlock (device .default)) (.unlockUnderflow .unlock) ∧
    leaves (exec .connect { device .attached with lockDepth := 3 }) (fun t => t.lockDepth == 3) := by decide

/-! ### Bus and power events, and the thread commands beside them (V2.7, V1.4) -/

theorem witness_PowerFramesAndConnect :
    gives (exec (.evPower false) (sending (.mem 0x1008) 10 false false (device .configured))) [.cbPower false] ∧
    leaves (exec (.evSuspend true) (device .default)) (fun t => t.suspended && t.out == []) ∧
    gives (exec (.evSof 0x123) (device .default)) [] ∧
    gives (exec (.evSof 0x7FF) { device .default with sofEnabled := true }) [.cbSof 0x7FF] ∧
    leaves (exec .sofEnable (device .default)) (fun t => t.sofEnabled && t.out == [.phySofEnable]) ∧
    leaves (exec .sofDisable { device .default with sofEnabled := true })
      (fun t => !t.sofEnabled && t.out == [.phySofDisable]) ∧
    (device .attached).lc = .attached ∧
    gives (exec .connect (device .attached)) [.phyConnect, .cbStateChange .powered] ∧
    (device .powered).lc ≠ .attached ∧ gives (exec .connect (device .powered)) [.phyConnect] := by decide

/-- V1.4, its first, third and last rows. -/
theorem test_bus_reset :
    leaves (exec .evReset (sending (.mem 0x1008) 10 false false (device .configured)))
      (fun t => t.out == [.cbReset, .cbStateChange .default] && t.ctx == Ctx.reset && t.configuration == 0) ∧
    gives (exec .evReset (asked ⟨0x80, 6, 0, 1, 0, 0, 0x40, 0⟩ (device .default))) [.cbReset] ∧
    leaves (exec .evReset (withEp 1 (bulk 1 true (some [1])) (device .configured)))
      (fun t => t.et[1] == bulk 0 true none && t.lc == .default) := by decide

/-! ### The Control Transfer Engine (V1.5, V2.1 to V2.4, P1, P5) -/

/-- V1.5: the newest setup packet wins in a data stage, and after a STALL. -/
theorem test_setup_wins :
    leaves (exec (.evEp0Setup ⟨0x80, 6, 0, 1, 0, 0, 0x40, 0⟩) (receiving 4 (device .configured)))
      (fun t => t.out == [.cbRequest ⟨0x80, 6, 0, 1, 0, 0, 0x40, 0⟩] && t.ctx.stage == .setup &&
        t.ctx.awaiting == .request && t.ctx.remaining == 0 && !t.ctx.ep0OutArmed) ∧
    leaves (exec (.evEp0Setup ⟨0x80, 6, 0, 1, 0, 0, 0x40, 0⟩) { device .default with ep0Stalled := true, stallCause := 2 })
      (fun t => !t.ep0Stalled && t.stallCause == 2) := by decide

/-- A short last packet, a full packet that is not the last, a packet whose bytes do not exist, and the zero-length packet. -/
theorem witness_InEventSendsNextPacket :
    (0 < 2 ∧ (Readable (sending (.mem 0x1010) 2 false false (device .default)) (.mem 0x1010) 2)) ∧
    leaves (exec .evEp0In (sending (.mem 0x1010) 2 false false (device .default)))
      (fun t => t.out == [.ep0Write [0, 0]] && t.ctx.ptr == .mem 0x1012 && t.ctx.remaining == 0 && t.ctx.ep0InBusy) ∧
    leaves (exec .evEp0In (sending (.mem 0x1008) 10 false false { device .default with mem := [(0x100F, 2)] }))
      (fun t => t.out == [.ep0Write [0, 0, 0, 0, 0, 0, 0, 2]] && t.ctx.remaining == 2) ∧
    ¬Readable (sending (.mem 0x5FFF) 2 false false (device .default)) (.mem 0x5FFF) 2 ∧
    faults (exec .evEp0In (sending (.mem 0x5FFF) 2 false false (device .default)))
      (.bufferFault .evEp0In (.mem 0x5FFF) 2) ∧
    leaves (exec .evEp0In (sending (.mem 0x1010) 0 true false (device .default)))
      (fun t => t.out == [.ep0Write []] && !t.ctx.zlp && t.ctx.ep0InBusy) := by
  unfold Readable; decide

/-- V2.3, and P1 step 7 with the class told and not told. -/
theorem witness_InEventEndsStage :
    stalls (exec .evEp0In (device .default)) 10 ∧ stalls (exec .evEp0In (ending false none (device .default))) 10 ∧
    stalls (exec .evEp0In (receiving 4 (device .default))) 10 ∧
    leaves (exec .evEp0In (sending (.mem 0x1012) 0 false false (device .default)))
      (fun t => t.out == [.ep0Read 0] && t.ctx.stage == .status && t.ctx.ep0OutArmed && !t.ctx.ep0InBusy) ∧
    leaves (exec .evEp0In (sending (.mem 0x1012) 0 false true (device .default)))
      (fun t => t.out == [.cbRequestXferDone ⟨0x80, 6, 0, 1, 0, 0, 0x40, 0⟩] && t.ctx.awaiting == .xferDone &&
        t.ctx.stage == .dataIn) := by decide

/-- V1.2 step 3, V2.5 (SET_ADDRESS 0 in Address), P1 step 8. -/
theorem witness_StatusStageEnds :
    gives (exec .evEp0In (ending true (some 127) (device .default))) [.phySetAddress 127, .cbStateChange .address] ∧
    leaves (exec .evEp0In (ending true (some 0) (device .address)))
      (fun t => t.out == [.phySetAddress 0, .cbStateChange .default] && t.address == 0 && t.ctx == Ctx.reset) ∧
    leaves (exec (.evEp0Out []) (ending false none (device .default)))
      (fun t => t.out == [] && t.ctx == Ctx.reset && t.lc == .default) := by decide

/-- P5 steps 3 and 4, a full last packet (V2.2), and a buffer that ends too soon (R54). -/
theorem witness_OutPacketIsStored :
    leaves (exec (.evEp0Out [0x11, 0x22, 0x33, 0x44, 0x55, 0x66, 0x77, 0x88]) (receiving 12 (device .configured)))
      (fun t => t.out == [.ep0Read 8] && t.ctx.remaining == 4 && t.ctx.ptr == .mem 0x3008 && t.ctx.ep0OutArmed &&
        t.readByte 0x3000 == 0x11 && t.readByte 0x3007 == 0x88 && t.readByte 0x3008 == 0) ∧
    leaves (exec (.evEp0Out [0x99, 0xAA, 0xBB, 0xCC]) (receiving 4 (device .configured)))
      (fun t => t.out == [.cbRequestXferDone ⟨0x21, 9, 0, 2, 0, 0, 12, 0⟩] && t.ctx.remaining == 0 &&
        t.ctx.awaiting == .xferDone && t.readByte 0x300B == 0xCC) ∧
    leaves (exec (.evEp0Out [1, 2, 3, 4, 5, 6, 7, 8]) (receiving 8 (device .configured)))
      (fun t => t.ctx.awaiting == .xferDone) ∧
    faults (exec (.evEp0Out [1, 2, 3, 4]) { receiving 4 (device .configured) with tbm := [.span 0x3000 11] })
      (.bufferFault (.evEp0Out [1, 2, 3, 4]) (.mem 0x3008) 4) ∧
    Memory.wf (receiving 12 (device .configured)).mem = true := by decide

/-- V2.2 and V2.3. -/
theorem witness_OutPacketChecks :
    stalls (exec (.evEp0Out []) (device .default)) 10 ∧
    stalls (exec (.evEp0Out []) (sending (.mem 0x1008) 10 false true (device .default))) 10 ∧
    stalls (exec (.evEp0Out [1, 2, 3, 4, 5, 6, 7, 8, 9]) (receiving 12 (device .configured))) 11 ∧
    stalls (exec (.evEp0Out [1, 2, 3, 4, 5]) (receiving 4 (device .configured))) 11 ∧
    stalls (exec (.evEp0Out [1, 2, 3, 4, 5, 6, 7]) (receiving 12 (device .configured))) 11 ∧
    stalls (exec (.evEp0Out []) (receiving 12 (device .configured))) 11 ∧
    stalls (exec (.evEp0Out [0]) (ending false none (device .default))) 11 := by decide

theorem admitted_in (a : Word) (n : Nat) (lc : Lifecycle) (h : 0x1000 ≤ a.toNat) (h2 : a.toNat + n ≤ 0x6000) :
    RangeAdmitted (device lc) a n := by
  intro o m hm
  refine .inr ?_
  simp only [State.admits, device, List.any_cons, List.any_nil, Region.covers, Bool.or_false, decide_eq_true_eq]
  have e : BitVec.toNat (0x1000 : Word) = 0x1000 := rfl
  simp only [BitVec.toNat_sub, BitVec.toNat_add, BitVec.toNat_ofNat, e]
  omega

/-- V2.1, L = 18 and wLength = 64 after the first packet, and L = 8, whose stage ends in a zero-length packet. -/
theorem witness_InDataStagePackets :
    (let s := { sending (.mem 0x1008) 10 false true (device .default) with out := [.ep0Write [0, 0, 0, 0, 0, 0, 0, 0]] }
     18 ≤ s.ctx.setup.wLength.toNat ∧ s.ctx.stage = .dataIn ∧ s.ctx.ep0InBusy = true ∧ s.ctx.direction = .send ∧
     s.ctx.remaining = BitVec.ofNat 32 (18 - min 18 (mps0 s)) ∧ s.ctx.ptr = .mem (0x1000 + BitVec.ofNat 32 (mps0 s)) ∧
     inSizes 18 (mps0 s) 64 = [8, 8, 2]) ∧
    RangeAdmitted (device .default) 0x1000 18 ∧ inSizes 8 8 64 = [8, 0] ∧ inSizes 16 8 16 = [8, 8] ∧ inSizes 0 8 64 = [0] ∧
    leaves (exec .evEp0In (sending (.mem 0x1008) 0 true false (device .default))) (fun t => t.out == [.ep0Write []]) := by
  refine ⟨by decide, admitted_in _ _ _ (by decide) (by decide), by decide⟩

/-- V2.2: wLength = 12 takes packets of 8 and 4 bytes, wLength = 16 two of 8. -/
theorem witness_OutDataStagePackets :
    (let s := receiving 12 (device .configured)
     s.ctx.stage = .dataOut ∧ s.ctx.direction = .receive ∧ s.ctx.ep0OutArmed = true ∧ s.ctx.remaining = BitVec.ofNat 32 12 ∧
     s.ctx.ptr = .mem 0x3000) ∧
    RangeAdmitted (device .configured) 0x3000 12 ∧
    outSizes 12 8 = [8, 4] ∧ outSizes 16 8 = [8, 8] ∧ outSizes 3 8 = [3] ∧ outSizes 129 64 = [64, 64, 1] := by
  refine ⟨by decide, admitted_in _ _ _ (by decide) (by decide), ?_⟩
  decide

/-! ### Completion commands and ABORT (V2.4, P4) -/

theorem witness_StaleCompletionsAreIgnored :
    gives (exec (.completeRequest .send 0x2000 4) (device .default)) [] ∧ gives (exec (.completeXferDone true) (device .default)) [] ∧
    gives (exec (.completeSetConfiguration true) (asked ⟨0xA1, 1, 0, 0, 0, 0, 4, 0⟩ (device .default))) [] ∧
    gives (exec (.completeSetInterface true) (device .default)) [] := by decide

/-- The setup packets of V2.4: IN with 4 bytes, OUT with 4 bytes, no data stage. -/
theorem witness_SendAnswer :
    leaves (exec (.completeRequest .send 0x2000 10) (asked ⟨0xA1, 1, 0, 0, 0, 0, 4, 0⟩ (device .default)))
      (fun t => t.out == [.ep0Write [0, 0, 0, 0]] && t.ctx.remaining == 0 && !t.ctx.zlp && t.ctx.notify) ∧
    leaves (exec (.completeRequest .send 0x2000 0) (asked ⟨0xA1, 1, 0, 0, 0, 0, 4, 0⟩ (device .default)))
      (fun t => t.out == [.ep0Write []] && t.ctx.stage == .dataIn && !t.ctx.zlp) ∧
    faults (exec (.completeRequest .send 0x5FFE 4) (asked ⟨0xA1, 1, 0, 0, 0, 0, 4, 0⟩ (device .default)))
      (.bufferFault (.completeRequest .send 0x5FFE 4) (.mem 0x5FFE) 4) ∧
    stalls (exec (.completeRequest .send 0x2000 4) (asked ⟨0x21, 1, 0, 0, 0, 0, 4, 0⟩ (device .default))) 6 ∧
    stalls (exec (.completeRequest .send 0x2000 4) (asked ⟨0xA1, 10, 0, 0, 0, 0, 0, 0⟩ (device .default))) 6 := by decide

theorem witness_OtherAnswers :
    leaves (exec (.completeRequest .receive 0x2000 4) (asked ⟨0x21, 1, 0, 0, 0, 0, 4, 0⟩ (device .default)))
      (fun t => t.out == [.ep0Read 8] && t.ctx.stage == .dataOut && t.ctx.remaining == 4 && t.ctx.ep0OutArmed) ∧
    stalls (exec (.completeRequest .receive 0x2000 3) (asked ⟨0x21, 1, 0, 0, 0, 0, 4, 0⟩ (device .default))) 6 ∧
    stalls (exec (.completeRequest .receive 0x2000 4) (asked ⟨0xA1, 1, 0, 0, 0, 0, 4, 0⟩ (device .default))) 6 ∧
    leaves (exec (.completeRequest .success 0 0) (asked ⟨0x21, 10, 0, 0, 0, 0, 0, 0⟩ (device .default)))
      (fun t => t.out == [.ep0Write []] && t.ctx.stage == .status && t.ctx.ep0InBusy && t.ctx.direction == .none) ∧
    stalls (exec (.completeRequest .success 0 0) (asked ⟨0xA1, 1, 0, 0, 0, 0, 4, 0⟩ (device .default))) 6 ∧
    stalls (exec (.completeRequest .failure 0 0) (asked ⟨0xA1, 1, 0, 0, 0, 0, 4, 0⟩ (device .default))) 1 := by decide

/-- A data stage of either direction whose end the class has been told. -/
def told (s : State) : State :=
  { s with ctx := { s.ctx with awaiting := .xferDone, ep0InBusy := false, ep0OutArmed := false } }

theorem witness_TransferDoneAnswer :
    gives (exec (.completeXferDone true) (device .configured)) [] ∧
    leaves (exec (.completeXferDone true) (told (sending (.mem 0x2004) 0 false true (device .configured))))
      (fun t => t.out == [.ep0Read 0] && t.ctx.stage == .status && t.ctx.ep0OutArmed) ∧
    leaves (exec (.completeXferDone true) (told (receiving 0 (device .configured))))
      (fun t => t.out == [.ep0Write []] && t.ctx.stage == .status && t.ctx.ep0InBusy) ∧
    stalls (exec (.completeXferDone false) (told (receiving 0 (device .configured)))) 7 := by decide

theorem witness_AbortEndsTransfer :
    gives (exec .abort (device .default)) [] ∧
    stalls (exec .abort (asked ⟨0xA1, 1, 0, 0, 0, 0, 4, 0⟩ (device .default))) 12 ∧
    stalls (exec .abort (sending (.mem 0x1010) 2 false false (device .default))) 12 := by decide

/-! ### Standard requests (V2.5, V1.7, V1.8) -/

theorem witness_RequestsNeedTheirState :
    allowedIn (.getStatusEndpoint ⟨true, 0, 0x81, 2⟩) .address = false ∧
    stalls (exec (.getStatusEndpoint ⟨true, 0, 0x81, 2⟩) (device .address)) 3 ∧
    allowedIn (.setAddress ⟨false, 5, 0, 0⟩) .configured = false ∧
    stalls (exec (.setAddress ⟨false, 5, 0, 0⟩) (device .configured)) 3 ∧
    allowedIn (.setFeatureEndpoint ⟨false, 2, 0x81, 0⟩) .address = false ∧
    stalls (exec (.setFeatureEndpoint ⟨false, 2, 0x81, 0⟩) (device .address)) 2 := by decide

theorem witness_StatusIsReported :
    gives (exec (.getStatusDevice ⟨true, 0, 0, 2⟩) { device .address with remoteWakeup := true }) [.ep0Write [3, 0]] ∧
    gives (exec (.getStatusDevice ⟨true, 0, 0, 1⟩) (device .address)) [.ep0Write [1]] ∧
    stalls (exec (.getStatusDevice ⟨false, 0, 0, 2⟩) (device .address)) 6 ∧
    stalls (exec (.getStatusDevice ⟨true, 0, 0, 2⟩) (device .default)) 3 ∧
    stalls (exec (.getStatusInterface ⟨true, 0, 0, 2⟩) (device .address)) 3 ∧
    gives (exec (.getStatusInterface ⟨true, 0, 0, 2⟩) (device .configured)) [.ep0Write [0, 0]] := by decide

theorem witness_StatusIsReported_endpoint :
    gives (exec (.getStatusEndpoint ⟨true, 0, 0x80, 2⟩) (device .address)) [.ep0Write [0, 0]] ∧
    stalls (exec (.getStatusEndpoint ⟨true, 0, 0x0181, 2⟩) (device .configured)) 4 ∧
    stalls (exec (.getStatusEndpoint ⟨true, 0, 0x91, 2⟩) (device .configured)) 4 ∧
    (IsSlot 0x81 1 ∧ IsSlot 0x8F 29 ∧ NoSlot 0x80 ∧ NoSlot 0x91) ∧
    stalls (exec (.getStatusEndpoint ⟨true, 0, 0x81, 2⟩) (device .configured)) 4 ∧
    gives (exec (.getStatusEndpoint ⟨true, 0, 0x81, 2⟩) (withEp 1 (bulk 0 true none) (device .configured)))
      [.ep0Write [1, 0]] := by
  unfold IsSlot NoSlot; decide

theorem witness_FeatureIsSwitched :
    leaves (exec (.setFeatureDevice ⟨false, 1, 0, 0⟩) (device .address)) (fun t => t.remoteWakeup && t.out == [.ep0Write []]) ∧
    leaves (exec (.clearFeatureDevice ⟨false, 1, 0, 0⟩) { device .address with remoteWakeup := true })
      (fun t => !t.remoteWakeup && t.ctx.stage == .status) ∧
    stalls (exec (.setFeatureDevice ⟨false, 2, 0, 0⟩) (device .address)) 2 ∧
    stalls (exec (.setFeatureDevice ⟨false, 1, 0, 1⟩) (device .address)) 6 ∧
    stalls (exec (.clearFeatureDevice ⟨false, 1, 0, 0⟩) (device .default)) 3 := by decide

theorem witness_FeatureIsSwitched_endpoint :
    gives (exec (.setFeatureEndpoint ⟨false, 0, 0x81, 0⟩) (withEp 1 (bulk 1 false none) (device .configured)))
      [.endpointStall 0x81, .endpointAbort 0x81, .ep0Write []] ∧
    gives (exec (.clearFeatureEndpoint ⟨false, 0, 0x81, 0⟩) (withEp 1 (bulk 0 true none) (device .configured)))
      [.endpointUnstall 0x81, .ep0Write []] ∧
    stalls (exec (.setFeatureEndpoint ⟨false, 0, 0, 0⟩) (device .configured)) 4 ∧
    stalls (exec (.setFeatureEndpoint ⟨false, 0, 0x0181, 0⟩) (device .configured)) 4 ∧
    stalls (exec (.setFeatureEndpoint ⟨false, 0, 0x81, 0⟩) (withEp 1 (bulk 0 false none) (device .address))) 3 ∧
    stalls (exec (.clearFeatureEndpoint ⟨false, 0, 0x81, 0⟩) (device .configured)) 4 ∧
    stalls (exec (.clearFeatureEndpoint ⟨false, 0, 0x81, 1⟩) (withEp 1 (bulk 0 true none) (device .configured))) 6 := by decide

theorem witness_AddressIsLatched :
    leaves (exec (.setAddress ⟨false, 127, 0, 0⟩) (device .default))
      (fun t => t.out == [.ep0Write []] && t.ctx.pendAddrValid && t.ctx.pendAddr == 127 && t.address == 0) ∧
    stalls (exec (.setAddress ⟨false, 128, 0, 0⟩) (device .default)) 4 ∧
    stalls (exec (.setAddress ⟨false, 5, 0, 1⟩) (device .address)) 6 ∧
    stalls (exec (.setAddress ⟨false, 5, 0, 0⟩) (device .configured)) 3 := by decide

/-- R112's example, then each answer an accessor can give, and the first string index and type that select none. -/
theorem witness_DescriptorIsSent :
    leaves (exec (.getDescriptor ⟨true, 0x100, 0, 64⟩) (device .attached))
      (fun t => t.out == [.ep0Write [0, 0, 0, 0, 0, 0, 0, 0]] && t.ctx.remaining == 10 && !t.ctx.notify) ∧
    gives (exec (.getDescriptor ⟨true, 0x300, 0, 255⟩) (device .default)) [.ep0Write [0, 0, 0, 0]] ∧
    gives (exec (.getDescriptor ⟨true, 0x200, 0, 8⟩) (device .default)) [.ep0Write [0, 0, 0, 0, 0, 0, 0, 0]] ∧
    stalls (exec (.getDescriptor ⟨true, 0x201, 0, 255⟩) (device .default)) 5 ∧
    stalls (exec (.getDescriptor ⟨true, 0x305, 0, 255⟩) (device .default)) 5 ∧
    stalls (exec (.getDescriptor ⟨true, 0x306, 0, 255⟩) (device .default)) 2 ∧
    stalls (exec (.getDescriptor ⟨true, 0x400, 0, 255⟩) (device .default)) 2 ∧
    stalls (exec (.getDescriptor ⟨true, 0x100, 0, 0⟩) (device .default)) 6 := by decide

theorem witness_SelectionIsReported :
    gives (exec (.getConfiguration ⟨true, 0, 0, 1⟩) (device .configured)) [.ep0Write [1]] ∧
    gives (exec (.getConfiguration ⟨true, 0, 0, 1⟩) (device .address)) [.ep0Write [0]] ∧
    stalls (exec (.getConfiguration ⟨true, 0, 0, 1⟩) (device .default)) 3 ∧
    gives (exec (.getInterface ⟨true, 0, 0, 1⟩) { device .configured with alternate := 2 }) [.ep0Write [2]] ∧
    stalls (exec (.getInterface ⟨true, 0, 0, 1⟩) (device .address)) 3 := by decide

theorem witness_SelectionIsDelegated :
    leaves (exec (.setConfiguration ⟨false, 1, 0, 0⟩) (device .address))
      (fun t => t.out == [.cbSetConfiguration 1] && t.ctx.awaiting == .setConfiguration && t.ctx.stage == .setup) ∧
    stalls (exec (.setConfiguration ⟨false, 1, 0, 1⟩) (device .address)) 6 ∧
    stalls (exec (.setConfiguration ⟨false, 1, 0, 0⟩) (device .default)) 3 ∧
    leaves (exec (.setInterface ⟨false, 1, 0, 0⟩) (device .configured))
      (fun t => t.out == [.cbSetInterface 0 1] && t.ctx.awaiting == .setInterface) ∧
    stalls (exec (.setInterface ⟨false, 1, 0, 0⟩) (device .address)) 3 := by decide

/-- The class has been asked for a configuration (V1.7) or an interface (V2.5). -/
def delegated (a : Awaiting) (p : SetupPacket) (s : State) : State :=
  { s with ctx := { Ctx.reset with setup := p, awaiting := a } }

theorem witness_SelectionAnswers :
    (∀ c, AskedWithoutData (delegated .setConfiguration ⟨0, 9, c, 0, 0, 0, 0, 0⟩ (device .address))) ∧
    leaves (exec (.completeSetConfiguration true) (delegated .setConfiguration ⟨0, 9, 2, 0, 0, 0, 0, 0⟩ (device .address)))
      (fun t => t.out == [.cbStateChange .configured, .ep0Write []] && t.lc == .configured && t.configuration == 2) ∧
    leaves (exec (.completeSetConfiguration true) (delegated .setConfiguration ⟨0, 9, 0, 0, 0, 0, 0, 0⟩ (device .configured)))
      (fun t => t.out == [.cbStateChange .address, .ep0Write []] && t.lc == .address && t.configuration == 0) ∧
    gives (exec (.completeSetConfiguration true) (delegated .setConfiguration ⟨0, 9, 0, 0, 0, 0, 0, 0⟩ (device .address)))
      [.ep0Write []] ∧
    stalls (exec (.completeSetConfiguration false) (delegated .setConfiguration ⟨0, 9, 3, 0, 0, 0, 0, 0⟩ (device .address))) 8 ∧
    AskedWithoutData (delegated .setInterface ⟨1, 11, 1, 0, 0, 0, 0, 0⟩ (device .configured)) ∧
    leaves (exec (.completeSetInterface true) (delegated .setInterface ⟨1, 11, 1, 0, 0, 0, 0, 0⟩ (device .configured)))
      (fun t => t.out == [.ep0Write []] && t.iface == 0 && t.alternate == 1) ∧
    stalls (exec (.completeSetInterface false) (delegated .setInterface ⟨1, 11, 1, 0, 0, 0, 0, 0⟩ (device .configured))) 9 :=
  ⟨fun _ _ => show le16 0 0 = 0 by decide, by decide, by decide, by decide, by decide, fun _ => by rfl, by decide⟩

/-! ### The Endpoint Table (V1.1, V1.6, V2.6) -/

/-- The hypotheses on endpoint addresses, at the first and last slot and at addresses with none. -/
theorem witness_addresses :
    IsSlot 0x01 0 ∧ IsSlot 0x8F 29 ∧ IsSlot 0x02 2 ∧ ¬In 0x02 ∧ In 0x81 ∧ NoSlot 0x00 ∧ NoSlot 0x80 ∧ NoSlot 0x11 ∧
    Absent 0x02 (device .configured) ∧ Absent 0x80 (device .configured) := by
  unfold Absent IsSlot NoSlot In; decide

/-- A record added, one removed, one that neither step touches, and an operation on an endpoint that has none. -/
theorem witness_ValidFromAddToRemove :
    (IsSlot 0x81 1 ∧ State.reset.et[1] = unregistered ∧ (device .configured).et[1].valid = false) ∧
    leaves (exec (.epAdd 0x81 64 2 7) (device .configured))
      (fun t => t.et[1].valid && t.ret == some (.bool true) && t.et[2] == unregistered) ∧
    leaves (exec (.epAdd 0x81 64 2 7) { device .configured with phyAnswers := [false] })
      (fun t => t.et[1] == unregistered && t.ret == some (.bool false)) ∧
    leaves (exec (.epRemove 0x81) (withEp 1 (bulk 1 true (some [1])) (device .configured))) (fun t => t.et[1] == unregistered) ∧
    leaves (exec .evReset (withEp 1 (bulk 1 true none) (device .configured))) (fun t => t.et[1].valid) ∧
    gives (exec (.readStart 0x02) (device .configured)) [] (some (.bool false)) ∧
    gives (exec (.readFinish 0x02 0x4000 64) (device .configured)) [] (some (.sized false 0)) := by
  unfold IsSlot; decide

theorem witness_EndpointAdd :
    leaves (exec (.epAdd 0x81 64 2 7) (device .configured)) (fun t =>
      t.out == [.endpointAdd 0x81 64 2] && t.ret == some (.bool true) && t.et[1] == bulk 0 false none) ∧
    gives (exec (.epAdd 0x8F 512 1 5) (device .configured)) [.endpointAdd 0x8F 512 1] (some (.bool true)) ∧
    gives (exec (.epAdd 0x01 64 3 1) { device .configured with phyAnswers := [false] }) [.endpointAdd 0x01 64 3]
      (some (.bool false)) ∧
    gives (exec (.epAdd 0x81 64 2 7) (withEp 1 (bulk 0 false none) (device .configured))) [] (some (.bool false)) ∧
    gives (exec (.epAdd 0x80 64 2 1) (device .configured)) [] (some (.bool false)) ∧
    gives (exec (.epAdd 0x01 64 0 1) (device .configured)) [] (some (.bool false)) ∧
    gives (exec (.epAdd 0x01 64 4 1) (device .configured)) [] (some (.bool false)) := by decide

theorem witness_EndpointRemoveAndStall :
    leaves (exec (.epRemove 0x01) (withEp 0 (bulk 1 true (some [1])) (device .configured)))
      (fun t => t.out == [.endpointAbort 0x01, .endpointRemove 0x01] && t.et[0] == EpRecord.empty) ∧
    gives (exec (.epRemove 0x81) (withEp 1 (bulk 0 false none) (device .configured))) [.endpointRemove 0x81]
      (some (.bool true)) ∧
    gives (exec (.epRemove 0x02) (device .configured)) [] (some (.bool false)) ∧
    leaves (exec (.epStall 0x81) (withEp 1 (bulk 1 false none) (device .configured)))
      (fun t => t.out == [.endpointStall 0x81, .endpointAbort 0x81] && t.et[1] == bulk 0 true none) ∧
    gives (exec (.epStall 0x81) (withEp 1 (bulk 0 true none) (device .configured))) [.endpointStall 0x81] (some (.bool true)) ∧
    gives (exec (.epStall 0x02) (device .configured)) [] (some (.bool false)) := by decide

theorem witness_EndpointUnstall :
    leaves (exec (.epUnstall 0x81) (withEp 1 (bulk 0 true none) (device .configured)))
      (fun t => t.out == [.endpointUnstall 0x81] && t.et[1] == bulk 0 false none) ∧
    gives (exec (.epUnstall 0x81) (withEp 1 (bulk 1 false none) (device .configured))) [.endpointUnstall 0x81]
      (some (.bool true)) ∧
    gives (exec (.epUnstall 0x02) (device .configured)) [] (some (.bool false)) ∧
    gives (exec (.epUnstall 0x80) (device .configured)) [] (some (.bool false)) := by decide

theorem witness_ReadStart :
    leaves (exec (.readStart 0x02) (withEp 2 (bulk 0 false (some [1])) (device .configured)))
      (fun t => t.out == [.endpointRead 0x02 64] && t.et[2] == bulk 1 false none && t.ret == some (.bool true)) ∧
    gives (exec (.readStart 0x02) (withEp 2 (bulk 1 false none) (device .configured))) [] (some (.bool false)) ∧
    gives (exec (.readStart 0x02) (withEp 2 (bulk 0 true none) (device .configured))) [] (some (.bool false)) ∧
    gives (exec (.readStart 0x82) (device .configured)) [] (some (.bool false)) := by decide

theorem witness_ReadFinish :
    leaves (exec (.readFinish 0x02 0x4000 64) (withEp 2 (bulk 0 false (some [0xAA, 0xBB, 0xCC])) (device .configured)))
      (fun t => t.ret == some (.sized true 3) && t.mem == [(0x4000, 0xAA), (0x4001, 0xBB), (0x4002, 0xCC)] &&
        t.et[2] == bulk 0 false none) ∧
    gives (exec (.readFinish 0x02 0xF000 64) (withEp 2 (bulk 0 false (some [])) (device .configured))) []
      (some (.sized true 0)) ∧
    gives (exec (.readFinish 0x02 0x4000 63) (withEp 2 (bulk 0 false (some [0xAA])) (device .configured))) []
      (some (.sized false 0)) ∧
    gives (exec (.readFinish 0x02 0x4000 64) (withEp 2 (bulk 1 false none) (device .configured))) [] (some (.sized false 0)) ∧
    gives (exec (.readFinish 0x02 0x4000 64) (withEp 2 (bulk 0 false none) (device .configured))) [] (some (.sized false 0)) ∧
    faults (exec (.readFinish 0x02 0x5FFF 64) (withEp 2 (bulk 0 false (some [1, 2])) (device .configured)))
      (.bufferFault (.readFinish 0x02 0x5FFF 64) (.mem 0x5FFF) 2) := by decide

theorem witness_WritePacket :
    leaves (exec (.write 0x81 0x5FFE 2) (withEp 1 (bulk 0 false none) { device .configured with mem := [(0x5FFF, 9)] }))
      (fun t => t.out == [.endpointWrite 0x81 [0, 9]] && t.et[1] == bulk 1 false none && t.ret == some (.bool true)) ∧
    gives (exec (.write 0x81 0xF000 0) (withEp 1 (bulk 0 false none) (device .configured))) [.endpointWrite 0x81 []]
      (some (.bool true)) ∧
    gives (exec (.write 0x81 0x5000 65) (withEp 1 (bulk 0 false none) (device .configured))) [] (some (.bool false)) ∧
    gives (exec (.write 0x81 0x5000 1) (withEp 1 (bulk 1 false none) (device .configured))) [] (some (.bool false)) ∧
    gives (exec (.write 0x81 0x5000 3) (withEp 1 (bulk 0 true none) (device .configured))) [] (some (.bool false)) ∧
    gives (exec (.write 0x01 0x5000 1) (withEp 0 (bulk 0 false none) (device .configured))) [] (some (.bool false)) ∧
    faults (exec (.write 0x81 0xF000 4) (withEp 1 (bulk 0 false none) (device .configured)))
      (.bufferFault (.write 0x81 0xF000 4) (.mem 0xF000) 4) := by decide

theorem witness_EndpointEvents :
    leaves (exec (.evOut 0x02 [0xAA, 0xBB]) (withEp 2 (bulk 1 false none) (device .configured)))
      (fun t => t.out == [.cbEndpoint 7 0x02] && t.et[2] == bulk 0 false (some [0xAA, 0xBB])) ∧
    leaves (exec (.evIn 0x81) (withEp 1 (bulk 1 false none) (device .configured)))
      (fun t => t.out == [.cbEndpoint 7 0x81] && t.et[1] == bulk 0 false none) ∧
    gives (exec (.evOut 0x02 [1]) (withEp 2 (bulk 0 false none) (device .configured))) [] ∧
    gives (exec (.evIn 0x81) (withEp 1 (bulk 0 false none) (device .configured))) [] ∧
    gives (exec (.evOut 0x81 [1]) (device .configured)) [] ∧ gives (exec (.evIn 0x01) (device .configured)) [] := by decide

/-- A refusal with no output, a refusal by the PHY, and READ_FINISH's. -/
theorem witness_FalseReturnChangesNothing :
    gives (exec (.epStall 0x02) (device .configured)) [] (some (.bool false)) ∧
    gives (exec (.epAdd 0x01 64 3 1) { device .configured with phyAnswers := [false] }) [.endpointAdd 0x01 64 3]
      (some (.bool false)) ∧
    gives (exec (.readFinish 0x02 0x4000 64) (device .configured)) [] (some (.sized false 0)) := by decide

/-- V1.6, for an IN and an OUT endpoint. -/
theorem witness_ClearHaltRestoresEndpoint :
    StalledIdle (withEp 1 (bulk 0 true none) (device .configured)) ∧
    StalledIdle (withEp 2 (bulk 0 true none) (device .configured)) ∧
    (IsSlot (endpointOf ⟨false, 0, 0x81, 0⟩) 1 ∧ In (endpointOf ⟨false, 0, 0x81, 0⟩) ∧
      IsSlot (endpointOf ⟨false, 0, 0x02, 0⟩) 2 ∧ ¬In (endpointOf ⟨false, 0, 0x02, 0⟩)) ∧
    leaves (exec (.clearFeatureEndpoint ⟨false, 0, 0x81, 0⟩) (withEp 1 (bulk 0 true none) (device .configured)))
      (fun t => t.out == [.endpointUnstall 0x81, .ep0Write []] &&
        gives (exec (.write 0x81 0x5000 3) t) [.endpointWrite 0x81 [0, 0, 0]] (some (.bool true))) ∧
    leaves (exec (.clearFeatureEndpoint ⟨false, 0, 0x02, 0⟩) (withEp 2 (bulk 0 true none) (device .configured)))
      (fun t => gives (exec (.readStart 0x02) t) [.endpointRead 0x02 64] (some (.bool true))) := by
  unfold StalledIdle IsSlot In; decide

/-! ### The guard (V2.8) -/

theorem witness_GuardCommands :
    leaves (exec .lock { device .default with lockDepth := 0xFFFFFFFE }) (fun t => t.lockDepth == 0xFFFFFFFF) ∧
    faults (exec .lock { device .default with lockDepth := 0xFFFFFFFF }) (.guardOverflow .lock) ∧
    gives (exec (.assertLocked .thread) { device .default with lockDepth := 1 }) [] ∧
    faults (exec (.assertLocked .thread) (device .default)) (.guardNotHeld (.assertLocked .thread)) ∧
    gives (exec (.assertLocked .interrupt) (device .default)) [] := by decide

/-! ### The host's words -/

/-- The table's words, and the first step after reset that runs each. -/
theorem test_fetch_word :
    decodeTableWord 8 0x10 = some .connect ∧ decodeTableWord 16 0x0500 = some (.setAddress ⟨false, 0, 0, 0⟩) ∧
    gives (step (State.reset.withFetchWord 8 0x10)) [.phyConnect, .cbStateChange .powered] ∧
    stalls (step (State.reset.withFetchWord 16 0x0500)) 3 := by decide

end Sys2Proof.Tests
end

section
/-! The statements of spec/00_scope.md: a step runs one decoded operation (R6), the agents' inputs wait in order while the
guard is held (R7, R141), and what an operation leaves alone (R8, R60, R143). -/

namespace Sys2Proof.Machine

/-! ### What the control transfer and the Endpoint Table do not own -/

/-- The fields OnlyTheNamedWriters speaks of: the memory, the guard depth, the parameters, the admitted ranges and what the
agents have issued. -/
structure Surroundings where
  mem       : Memory
  lockDepth : Word
  tbm       : List Region
  cfg       : Config
  inputs    : List Input

/-- The surroundings of a state. An update of any other field keeps them by `rfl`. -/
def State.surroundings (s : State) : Surroundings where
  mem       := s.mem
  lockDepth := s.lockDepth
  tbm       := s.tbm
  cfg       := s.cfg
  inputs    := s.inputs

theorem surroundings_eq_iff {s t : State} : t.surroundings = s.surroundings ↔
    t.mem = s.mem ∧ t.lockDepth = s.lockDepth ∧ t.tbm = s.tbm ∧ t.cfg = s.cfg ∧ t.inputs = s.inputs := by
  simp only [State.surroundings, Surroundings.mk.injEq]

@[simp] theorem surroundings_begin (s : State) : s.begin.surroundings = s.surroundings := rfl

@[simp] theorem surroundings_emit (s : State) (o : Output) : (s.emit o).surroundings = s.surroundings := rfl

@[simp] theorem surroundings_answer (s : State) (ok : Bool) : (s.answer ok).surroundings = s.surroundings := rfl

@[simp] theorem surroundings_changeState (new : Lifecycle) (s : State) :
    (changeState new s).surroundings = s.surroundings := by
  simp [surroundings_eq_iff]

@[simp] theorem surroundings_stallEp (ep : Byte) (i : Fin 30) (s : State) :
    (stallEp ep i s).surroundings = s.surroundings := by
  unfold stallEp
  split <;> rfl

@[simp] theorem surroundings_unstallEp (ep : Byte) (i : Fin 30) (s : State) :
    (unstallEp ep i s).surroundings = s.surroundings := rfl

/-! ### The routines of the Control Transfer Engine -/

theorem surroundings_sendNext {s t : State} (h : sendNext s = .ok t) : t.surroundings = s.surroundings := by
  obtain ⟨d, -, -, rfl⟩ := sendNext_ok h
  rfl

theorem surroundings_respondSend {dirIn : Bool} {wl : Half} {p : BufPtr} {size : Word} {notify : Bool} {s t : State}
    (h : respondSend dirIn wl p size notify s = .ok t) : t.surroundings = s.surroundings := by
  rcases respondSend_cases dirIn wl p size notify s with ⟨-, e⟩ | ⟨-, -, e⟩ <;> rw [e] at h
  · cases h; rfl
  · exact (surroundings_sendNext h).trans rfl

@[simp] theorem surroundings_respondReceive (dirIn : Bool) (wl : Half) (p : BufPtr) (size : Word) (notify : Bool)
    (s : State) : (respondReceive dirIn wl p size notify s).surroundings = s.surroundings := by
  rcases respondReceive_cases dirIn wl p size notify s with e | ⟨-, -, -, e⟩ <;> rw [e] <;> rfl

@[simp] theorem surroundings_respondSuccess (wl : Half) (notify : Bool) (s : State) :
    (respondSuccess wl notify s).surroundings = s.surroundings := by
  rcases respondSuccess_cases wl notify s with ⟨-, e⟩ | ⟨-, e⟩ <;> rw [e] <;> rfl

@[simp] theorem surroundings_statusStart (s : State) : (statusStart s).surroundings = s.surroundings := by
  rcases statusStart_cases s with ⟨-, e⟩ | ⟨-, e⟩ <;> rw [e] <;> rfl

@[simp] theorem surroundings_dataStageDone (s : State) : (dataStageDone s).surroundings = s.surroundings := by
  rcases dataStageDone_cases s with ⟨-, e⟩ | ⟨-, e⟩ <;> rw [e]
  · rfl
  · exact surroundings_statusStart s

@[simp] theorem surroundings_statusDone (s : State) : (statusDone s).surroundings = s.surroundings := by
  rcases statusDone_cases s with ⟨-, e⟩ | ⟨-, -, e⟩ | ⟨-, -, e⟩ <;> rw [e]
  · rfl
  · exact surroundings_changeState _ _
  · exact surroundings_changeState _ _

/-! ### The standard requests -/

theorem surroundings_of_handled {i : Instr} {r : RequestArgs} {s t : State} (h : Handled i r s (.ok t)) :
    t.surroundings = s.surroundings := by
  generalize hx : (Except.ok t : Except Breach State) = x at h
  cases h with
  | reply | descriptor => exact (surroundings_sendNext hx.symm).trans rfl
  | halt j => cases hx; exact surroundings_stallEp _ j s
  | stall | wakeup | unhalt | latch | configuration | interface => cases hx; rfl

theorem requestArgs_of_kind {i : Instr} (h : i.kind = .request) : ∃ r, requestArgs i = some r := by
  cases i <;> cases h <;> exact ⟨_, rfl⟩

theorem surroundings_handler {i : Instr} {s t : State} (hk : i.kind = .request) (h : handler i s = .ok t) :
    t.surroundings = s.surroundings := by
  obtain ⟨r, hr⟩ := requestArgs_of_kind hk
  exact surroundings_of_handled (h ▸ handler_cases s hr)

theorem surroundings_stdDispatch {s t : State} (h : stdDispatch s = .ok t) : t.surroundings = s.surroundings := by
  cases hd : decodeRequest s.ctx.setup with
  | none => rw [stdDispatch_of_none hd] at h; cases h; rfl
  | some i =>
    rw [stdDispatch_of_request hd] at h
    exact surroundings_handler (decodeRequest_args hd).1 h

/-! ### The endpoint-0 events and the class's answers -/

@[simp] theorem surroundings_newSetup (p : SetupPacket) (s : State) : (newSetup p s).surroundings = s.surroundings := rfl

theorem surroundings_inPacketSent {s t : State} (h : inPacketSent s = .ok t) : t.surroundings = s.surroundings := by
  unfold inPacketSent at h
  split at h
  · cases h; rfl
  dsimp only at h
  split at h
  · split at h
    · exact surroundings_sendNext h
    split at h <;> cases h
    · rfl
    · exact surroundings_dataStageDone _
  · cases h; exact surroundings_statusDone _
  · cases h; rfl
  · cases h; rfl

theorem surroundings_takeDataPacket {d : List Byte} {s t : State} (h : takeDataPacket d s = .ok t) :
    ∃ m, t.surroundings = { s.surroundings with mem := m } := by
  unfold takeDataPacket at h
  split at h
  · cases h
  · rename_i u hu
    obtain ⟨a, -, -, rfl⟩ := bufWrite_ok hu
    refine ⟨Memory.writeBytes s.mem a d, ?_⟩
    dsimp only at h
    split at h <;> cases h
    · exact surroundings_dataStageDone _
    · rfl

theorem surroundings_outPacketReceived {d : List Byte} {s t : State} (h : outPacketReceived d s = .ok t) :
    ∃ m, t.surroundings = { s.surroundings with mem := m } := by
  unfold outPacketReceived at h
  split at h
  · cases h; exact ⟨s.mem, rfl⟩
  dsimp only at h
  split at h
  · split at h
    · cases h; exact ⟨s.mem, rfl⟩
    · exact (surroundings_takeDataPacket h :)
  · split at h <;> cases h
    · exact ⟨s.mem, rfl⟩
    · exact ⟨s.mem, surroundings_statusDone _⟩
  · cases h; exact ⟨s.mem, rfl⟩
  · cases h; exact ⟨s.mem, rfl⟩

theorem surroundings_requestAnswered {result : RequestResult} {a x : Word} {s t : State}
    (h : requestAnswered result a x s = .ok t) : t.surroundings = s.surroundings := by
  unfold requestAnswered at h
  split at h
  · cases h; rfl
  dsimp only at h
  cases result with
  | receive => cases h; exact surroundings_respondReceive ..
  | send => exact (surroundings_respondSend (notify := true) h).trans rfl
  | success => cases h; exact surroundings_respondSuccess ..
  | failure => cases h; rfl
  | passThrough => exact (surroundings_stdDispatch h).trans rfl

@[simp] theorem surroundings_transferAnswered (success : Bool) (s : State) :
    (transferAnswered success s).surroundings = s.surroundings := by
  unfold transferAnswered
  split
  · rfl
  split
  · rfl
  · exact surroundings_statusStart _

@[simp] theorem surroundings_configurationSet (success : Bool) (s : State) :
    (configurationSet success s).surroundings = s.surroundings := by
  unfold configurationSet
  split
  · rfl
  split
  · rfl
  · dsimp only
    rw [surroundings_respondSuccess]
    split <;> exact surroundings_changeState _ _

@[simp] theorem surroundings_interfaceSet (success : Bool) (s : State) :
    (interfaceSet success s).surroundings = s.surroundings := by
  unfold interfaceSet
  split
  · rfl
  split
  · rfl
  · exact surroundings_respondSuccess ..

@[simp] theorem surroundings_explicitAbort (s : State) : (explicitAbort s).surroundings = s.surroundings := by
  unfold explicitAbort
  split <;> rfl

@[simp] theorem surroundings_busReset (s : State) : (busReset s).surroundings = s.surroundings :=
  surroundings_changeState _ _

/-! ### The operations on the other endpoints -/

@[simp] theorem surroundings_addEndpoint (ep : Byte) (m : Half) (t : Byte) (c : Word) (s : State) :
    (addEndpoint ep m t c s).surroundings = s.surroundings := by
  unfold addEndpoint
  repeat' split
  all_goals rfl

@[simp] theorem surroundings_removeEndpoint (ep : Byte) (s : State) :
    (removeEndpoint ep s).surroundings = s.surroundings := by
  unfold removeEndpoint
  split
  · rfl
  · dsimp only
    split <;> rfl

@[simp] theorem surroundings_startRead (ep : Byte) (s : State) : (startRead ep s).surroundings = s.surroundings := by
  unfold startRead
  repeat' split
  all_goals rfl

@[simp] theorem surroundings_packetArrived (ep : Byte) (d : List Byte) (s : State) :
    (packetArrived ep d s).surroundings = s.surroundings := by
  unfold packetArrived
  repeat' split
  all_goals rfl

@[simp] theorem surroundings_packetSent (ep : Byte) (s : State) : (packetSent ep s).surroundings = s.surroundings := by
  unfold packetSent
  repeat' split
  all_goals rfl

theorem surroundings_startWrite {ep : Byte} {a x : Word} {s t : State} (h : startWrite ep a x s = .ok t) :
    t.surroundings = s.surroundings := by
  unfold startWrite at h
  repeat' split at h
  all_goals cases h <;> rfl

theorem surroundings_finishRead {ep : Byte} {a x : Word} {s t : State} (h : finishRead ep a x s = .ok t) :
    ∃ m, t.surroundings = { s.surroundings with mem := m } := by
  unfold finishRead at h
  split at h
  · cases h; exact ⟨s.mem, rfl⟩
  split at h
  · cases h; exact ⟨s.mem, rfl⟩
  split at h
  · cases h; exact ⟨s.mem, rfl⟩
  split at h
  · cases h; exact ⟨s.mem, rfl⟩
  · rename_i d _
    split at h
    · cases h
    · rename_i u hu
      obtain ⟨b, -, -, rfl⟩ := bufWrite_ok (p := .mem a) hu
      cases h
      exact ⟨Memory.writeBytes s.mem b (d.take x.toNat), rfl⟩

/-! ### The guard -/

theorem surroundings_acquire {s t : State} (h : acquire s = .ok t) :
    ∃ n, t.surroundings = { s.surroundings with lockDepth := n } := by
  unfold acquire at h
  split at h <;> cases h
  exact ⟨s.lockDepth + 1, rfl⟩

theorem surroundings_release {s t : State} (h : release s = .ok t) :
    ∃ n, t.surroundings = { s.surroundings with lockDepth := n } := by
  unfold release at h
  split at h <;> cases h
  exact ⟨s.lockDepth - 1, rfl⟩

theorem surroundings_assertHeld {k : Context} {s t : State} (h : assertHeld k s = .ok t) :
    t.surroundings = s.surroundings := by
  unfold assertHeld at h
  split at h <;> cases h
  rfl

/-! ### Every operation -/

theorem surroundings_plainOperation {body : State → State} {s t : State}
    (hb : ∀ u, (body u).surroundings = u.surroundings) (h : plainOperation body s = .next t) :
    t.surroundings = s.surroundings := by
  rw [plainOperation_next h, hb, surroundings_begin]

theorem surroundings_operation {op : Instr} {body : State → Except Breach State} {s t : State}
    (hb : ∀ {u v}, body u = .ok v → v.surroundings = u.surroundings) (h : operation op body s = .next t) :
    t.surroundings = s.surroundings := by
  rw [hb (operation_next h), surroundings_begin]

theorem surroundings_execEvSof {f : BitVec 11} {s t : State} (h : execEvSof f s = .next t) :
    t.surroundings = s.surroundings := by
  refine surroundings_plainOperation (fun u => ?_) h
  split <;> rfl

theorem surroundings_execConnect {s t : State} (h : execConnect s = .next t) : t.surroundings = s.surroundings := by
  refine surroundings_plainOperation (fun u => ?_) h
  split <;> simp

theorem surroundings_execEpStall {ep : Byte} {s t : State} (h : execEpStall ep s = .next t) :
    t.surroundings = s.surroundings := by
  refine surroundings_plainOperation (fun u => ?_) h
  split <;> simp

theorem surroundings_execEpUnstall {ep : Byte} {s t : State} (h : execEpUnstall ep s = .next t) :
    t.surroundings = s.surroundings := by
  refine surroundings_plainOperation (fun u => ?_) h
  split <;> simp

/-- The operations that write the transfer-buffer memory (R60). -/
def WritesMemory (i : Instr) : Prop :=
  (∃ d, i = .evEp0Out d) ∨ ∃ ep a x, i = .readFinish ep a x

/-- The operations that move the guard depth (R142, R143). -/
def MovesGuard (i : Instr) : Prop :=
  i = .lock ∨ i = .unlock

/-- An operation that is neither a memory writer nor LOCK or UNLOCK keeps the surroundings whole; those change their own
field alone. -/
theorem exec_surroundings {i : Instr} {s t : State} (h : exec i s = .next t) :
    t.surroundings = s.surroundings ∨
    (WritesMemory i ∧ ∃ m, t.surroundings = { s.surroundings with mem := m }) ∨
    (MovesGuard i ∧ ∃ n, t.surroundings = { s.surroundings with lockDepth := n }) := by
  cases hk : i.kind with
  | request =>
    rw [exec_request i s hk] at h
    exact .inl (surroundings_operation (surroundings_handler hk) h)
  | operation =>
    cases i
    case evEp0Out d => exact .inr (.inl ⟨.inl ⟨d, rfl⟩, (surroundings_outPacketReceived (operation_next h) :)⟩)
    case readFinish ep a x =>
      exact .inr (.inl ⟨.inr ⟨ep, a, x, rfl⟩, (surroundings_finishRead (operation_next h) :)⟩)
    case lock => exact .inr (.inr ⟨.inl rfl, (surroundings_acquire (operation_next h) :)⟩)
    case unlock => exact .inr (.inr ⟨.inr rfl, (surroundings_release (operation_next h) :)⟩)
    case evEp0In => exact .inl (surroundings_operation surroundings_inPacketSent h)
    case write => exact .inl (surroundings_operation surroundings_startWrite h)
    case completeRequest => exact .inl (surroundings_operation surroundings_requestAnswered h)
    case assertLocked => exact .inl (surroundings_operation surroundings_assertHeld h)
    case evPower | evSuspend | sofEnable | sofDisable => cases h; exact .inl rfl
    case evSof => exact .inl (surroundings_execEvSof h)
    case connect => exact .inl (surroundings_execConnect h)
    case epStall => exact .inl (surroundings_execEpStall h)
    case epUnstall => exact .inl (surroundings_execEpUnstall h)
    case evReset => exact .inl (surroundings_plainOperation surroundings_busReset h)
    case evEp0Setup p => exact .inl (surroundings_plainOperation (surroundings_newSetup p) h)
    case evOut ep d => exact .inl (surroundings_plainOperation (surroundings_packetArrived ep d) h)
    case evIn ep => exact .inl (surroundings_plainOperation (surroundings_packetSent ep) h)
    case epAdd ep m ty c => exact .inl (surroundings_plainOperation (surroundings_addEndpoint ep m ty c) h)
    case epRemove ep => exact .inl (surroundings_plainOperation (surroundings_removeEndpoint ep) h)
    case readStart ep => exact .inl (surroundings_plainOperation (surroundings_startRead ep) h)
    case completeXferDone b => exact .inl (surroundings_plainOperation (surroundings_transferAnswered b) h)
    case completeSetConfiguration b => exact .inl (surroundings_plainOperation (surroundings_configurationSet b) h)
    case completeSetInterface b => exact .inl (surroundings_plainOperation (surroundings_interfaceSet b) h)
    case abort => exact .inl (surroundings_plainOperation surroundings_explicitAbort h)
    all_goals cases hk

theorem exec_keeps_parameters {i : Instr} {s t : State} (h : exec i s = .next t) :
    t.cfg = s.cfg ∧ t.tbm = s.tbm ∧ t.inputs = s.inputs := by
  obtain e | ⟨-, m, e⟩ | ⟨-, n, e⟩ := exec_surroundings h
  all_goals exact ⟨congrArg Surroundings.cfg e, congrArg Surroundings.tbm e, congrArg Surroundings.inputs e⟩

theorem exec_keeps_mem {i : Instr} {s t : State} (hw : ¬WritesMemory i) (h : exec i s = .next t) :
    t.mem = s.mem := by
  obtain e | ⟨hi, -⟩ | ⟨-, n, e⟩ := exec_surroundings h
  · exact congrArg Surroundings.mem e
  · exact absurd hi hw
  · exact congrArg Surroundings.mem e

theorem exec_keeps_lockDepth {i : Instr} {s t : State} (hg : ¬MovesGuard i) (h : exec i s = .next t) :
    t.lockDepth = s.lockDepth := by
  obtain e | ⟨-, m, e⟩ | ⟨hi, -⟩ := exec_surroundings h
  · exact congrArg Surroundings.lockDepth e
  · exact congrArg Surroundings.lockDepth e
  · exact absurd hi hg

/-- Settles O23, from what each operation does to the surroundings. -/
theorem onlyTheNamedWriters : Obligations.OnlyTheNamedWriters := by
  intro s t i h
  refine ⟨fun hOut hRead => exec_keeps_mem ?_ h, fun hLock hUnlock => exec_keeps_lockDepth ?_ h, exec_keeps_parameters h⟩
  · rintro (hi | hi)
    · exact hOut hi
    · exact hRead hi
  · rintro (hi | hi)
    · exact hLock hi
    · exact hUnlock hi

/-! ### Which input a step takes, and what it runs -/

theorem step_of_nextInput {s : State} {x : Input} {rest : List Input} (h : nextInput s = some (x, rest)) :
    step s = perform x { s with inputs := rest } := by
  simp only [step, h]

theorem step_of_no_input {s : State} (h : nextInput s = none) : step s = .next s.begin := by
  simp only [step, h]

theorem perform_record_of_ok {bs : List Byte} {i : Instr} (s : State) (h : decodeRecord bs = .ok i) :
    perform (.record bs) s = exec i s := by
  simp only [perform, h]

theorem perform_record_of_error {bs : List Byte} {e : BadRecord} (s : State) (h : decodeRecord bs = .error e) :
    perform (.record bs) s = .refused (.badRecord e bs) := by
  simp only [perform, h]

/-- Settles O7: the step performs the input taken, and what it does with a record follows the decoder's answer. -/
theorem stepRunsOperation : Obligations.StepRunsOperation := by
  intro s bs rest hnext
  have hstep := step_of_nextInput hnext
  exact ⟨fun i hi => hstep.trans (perform_record_of_ok _ hi), fun e he => hstep.trans (perform_record_of_error _ he)⟩

theorem perform_keeps_inputs {x : Input} {s t : State} (h : perform x s = .next t) : t.inputs = s.inputs := by
  cases x with
  | record bs =>
    cases hd : decodeRecord bs with
    | ok i =>
      rw [perform_record_of_ok s hd] at h
      exact (exec_keeps_parameters h).2.2
    | error e => rw [perform_record_of_error s hd] at h; cases h
  | callerStore => cases h; rfl
  | callerLend => cases h; rfl

/-! ### The guard holds events back (R141) -/

theorem takeInput_unlocked (x : Input) (rest : List Input) : takeInput false (x :: rest) = some (x, rest) := rfl

theorem takeInput_locked_event {x : Input} (rest : List Input) (hx : x.isEvent = true) :
    takeInput true (x :: rest) = (takeInput true rest).map fun p => (p.1, x :: p.2) := by
  simp only [takeInput, hx, Bool.and_self, if_true]
  cases takeInput true rest <;> rfl

theorem takeInput_locked_other {x : Input} (rest : List Input) (hx : x.isEvent = false) :
    takeInput true (x :: rest) = some (x, rest) := by
  simp only [takeInput, hx, Bool.and_false, Bool.false_eq_true, if_false]

/-- With the guard held, the oldest input that is no event is taken from behind the events before it. -/
theorem takeInput_locked_append {held : List Input} (hheld : ∀ h ∈ held, h.isEvent = true) {x : Input}
    (hx : x.isEvent = false) (rest : List Input) :
    takeInput true (held ++ x :: rest) = some (x, held ++ rest) := by
  induction held with
  | nil => exact takeInput_locked_other rest hx
  | cons y ys ih =>
    rw [List.cons_append, takeInput_locked_event _ (hheld y List.mem_cons_self),
      ih fun h hm => hheld h (List.mem_cons_of_mem y hm)]
    rfl

/-- With the guard held, what is taken is no event, so the events left are those that waited, in their order. -/
theorem takeInput_locked_keeps_events {inputs left : List Input} {x : Input}
    (h : takeInput true inputs = some (x, left)) : left.filter Input.isEvent = inputs.filter Input.isEvent := by
  induction inputs generalizing left with
  | nil => cases h
  | cons y ys ih =>
    cases hy : y.isEvent with
    | false =>
      rw [takeInput_locked_other ys hy] at h
      cases h
      exact (List.filter_cons_of_neg (by simp [hy])).symm
    | true =>
      rw [takeInput_locked_event ys hy] at h
      obtain ⟨⟨z, rest⟩, hrest, e⟩ := Option.map_eq_some_iff.1 h
      cases e
      rw [List.filter_cons_of_pos hy, List.filter_cons_of_pos hy, ih hrest]

theorem nextInput_of_locked {s : State} (h : s.lockDepth ≠ 0) : nextInput s = takeInput true s.inputs := by
  rw [nextInput, bne_iff_ne.2 h]

theorem nextInput_of_free {s : State} (h : s.lockDepth = 0) : nextInput s = takeInput false s.inputs := by
  rw [nextInput, h]
  rfl

theorem step_locked_keeps_events {s t : State} (hlock : s.lockDepth ≠ 0) (h : step s = .next t) :
    t.inputs.filter Input.isEvent = s.inputs.filter Input.isEvent := by
  cases hn : nextInput s with
  | none => rw [step_of_no_input hn] at h; cases h; rfl
  | some p =>
    obtain ⟨x, left⟩ := p
    rw [step_of_nextInput hn] at h
    rw [nextInput_of_locked hlock] at hn
    rw [perform_keeps_inputs h]
    exact takeInput_locked_keeps_events hn

/-! ### An op byte says whether the decoded operation is an event -/

section Readers

variable {bs : List Byte} {i : Instr}

theorem readBool_ok {mk : Bool → Instr} (h : readBool mk bs = .ok i) : ∃ b, i = mk b := by
  unfold readBool at h
  repeat' split at h
  all_goals cases h
  · exact ⟨false, rfl⟩
  · exact ⟨true, rfl⟩

theorem readContext_ok {mk : Context → Instr} (h : readContext mk bs = .ok i) : ∃ k, i = mk k := by
  unfold readContext at h
  repeat' split at h
  all_goals cases h
  · exact ⟨.thread, rfl⟩
  · exact ⟨.interrupt, rfl⟩

theorem readFrame_ok {mk : BitVec 11 → Instr} (h : readFrame mk bs = .ok i) : ∃ f, i = mk f := by
  unfold readFrame at h
  repeat' split at h
  all_goals cases h
  exact ⟨_, rfl⟩

theorem readSetup_ok {mk : SetupPacket → Instr} (h : readSetup mk bs = .ok i) : ∃ p, i = mk p := by
  unfold readSetup at h
  split at h <;> cases h
  exact ⟨_, rfl⟩

theorem readData_ok {mk : List Byte → Instr} (h : readData mk bs = .ok i) : ∃ d, i = mk d := by
  unfold readData at h
  repeat' split at h
  all_goals cases h
  exact ⟨_, rfl⟩

theorem readEp_ok {mk : Byte → Instr} (h : readEp mk bs = .ok i) : ∃ ep, i = mk ep := by
  unfold readEp at h
  split at h <;> cases h
  exact ⟨_, rfl⟩

theorem readEpData_ok {mk : Byte → List Byte → Instr} (h : readEpData mk bs = .ok i) : ∃ ep d, i = mk ep d := by
  unfold readEpData at h
  split at h
  · exact ⟨_, readData_ok h⟩
  · cases h

theorem readAdd_ok {mk : Byte → Half → Byte → Word → Instr} (h : readAdd mk bs = .ok i) :
    ∃ ep m t c, i = mk ep m t c := by
  unfold readAdd at h
  split at h <;> cases h
  exact ⟨_, _, _, _, rfl⟩

theorem readBuffer_ok {mk : Byte → Word → Word → Instr} (h : readBuffer mk bs = .ok i) :
    ∃ ep a x, i = mk ep a x := by
  unfold readBuffer at h
  split at h <;> cases h
  exact ⟨_, _, _, rfl⟩

theorem readAnswer_ok {mk : RequestResult → Word → Word → Instr} (h : readAnswer mk bs = .ok i) :
    ∃ r a x, i = mk r a x := by
  unfold readAnswer at h
  repeat' split at h
  all_goals cases h
  exact ⟨_, _, _, rfl⟩

end Readers

theorem isEventOp_of_decoded {op : Byte} {rest : List Byte} {i : Instr} (h : decodeRecord (op :: rest) = .ok i) :
    isEventOp op = i.isEvent := by
  unfold isEventOp
  simp only [decodeRecord] at h
  split at h
  case h_1 hop | h_2 hop | h_21 hop | h_22 hop | h_23 hop => obtain ⟨_, rfl⟩ := readBool_ok h; rw [hop]; rfl
  case h_3 hop => obtain ⟨_, rfl⟩ := readFrame_ok h; rw [hop]; rfl
  case h_5 hop => obtain ⟨_, rfl⟩ := readSetup_ok h; rw [hop]; rfl
  case h_6 hop => obtain ⟨_, rfl⟩ := readData_ok h; rw [hop]; rfl
  case h_8 hop => obtain ⟨_, _, rfl⟩ := readEpData_ok h; rw [hop]; rfl
  case h_9 hop | h_12 hop | h_13 hop | h_14 hop | h_15 hop => obtain ⟨_, rfl⟩ := readEp_ok h; rw [hop]; rfl
  case h_11 hop => obtain ⟨_, _, _, _, rfl⟩ := readAdd_ok h; rw [hop]; rfl
  case h_16 hop | h_17 hop => obtain ⟨_, _, _, rfl⟩ := readBuffer_ok h; rw [hop]; rfl
  case h_20 hop => obtain ⟨_, _, _, rfl⟩ := readAnswer_ok h; rw [hop]; rfl
  case h_27 hop => obtain ⟨_, rfl⟩ := readContext_ok h; rw [hop]; rfl
  case h_4 hop | h_7 hop | h_10 hop | h_18 hop | h_19 hop | h_24 hop | h_25 hop | h_26 hop => cases h; rw [hop]; rfl
  case h_28 => cases h

theorem isEvent_of_decoded {bs : List Byte} {i : Instr} (h : decodeRecord bs = .ok i) :
    Input.isEvent (.record bs) = i.isEvent := by
  cases bs with
  | nil => cases h
  | cons op rest => exact isEventOp_of_decoded h

/-- Settles O9, clause by clause: what is left behind, what the op byte says, and what is taken. -/
theorem guardHoldsEvents : Obligations.GuardHoldsEvents := by
  refine ⟨fun s t => step_locked_keeps_events, fun bs i => isEvent_of_decoded, ?_⟩
  rintro s held x rest hs hheld (⟨hfree, rfl⟩ | ⟨hlock, hx⟩)
  · rw [nextInput_of_free hfree, hs]
    exact takeInput_unlocked x rest
  · rw [nextInput_of_locked hlock, hs]
    exact takeInput_locked_append hheld hx rest

end Sys2Proof.Machine
end

section
/-! The statements of spec/20_memory.md: every step leaves the transfer-buffer memory in its canonical form, by storing at
most one run of bytes (R54, R60), what the caller does to the memory between steps (R59, R163), and which operations stop
with which fault (R55, R147, R148). -/

namespace Sys2Proof.Machine

open Sys2Proof.Safety Sys2Proof.Claims

/-! ### What a step leaves of the memory -/

/-- The memory of `t` is that of `s` with one run of bytes stored, possibly empty. -/
def OneStore (s t : State) : Prop :=
  ∃ a d, t.mem = Memory.writeBytes s.mem a d

theorem oneStore_of_mem_eq {s t : State} (h : t.mem = s.mem) : OneStore s t :=
  ⟨0, [], h⟩

theorem oneStore_wf {s t : State} (h : OneStore s t) (hs : Memory.wf s.mem = true) : Memory.wf t.mem = true := by
  obtain ⟨a, d, e⟩ := h
  rw [e]
  exact wf_writeBytes s.mem a d hs

theorem dataStageDone_mem (s : State) : (dataStageDone s).mem = s.mem :=
  congrArg Surroundings.mem (surroundings_dataStageDone s)

theorem statusDone_mem (s : State) : (statusDone s).mem = s.mem :=
  congrArg Surroundings.mem (surroundings_statusDone s)

theorem takeDataPacket_oneStore {d : List Byte} {s t : State} (h : takeDataPacket d s = .ok t) : OneStore s t := by
  unfold takeDataPacket at h
  split at h
  · cases h
  · rename_i u hu
    obtain ⟨a, -, -, rfl⟩ := bufWrite_ok hu
    refine ⟨a, d, ?_⟩
    dsimp only at h
    split at h <;> cases h
    · exact dataStageDone_mem _
    · rfl

theorem outPacketReceived_oneStore {d : List Byte} {s t : State} (h : outPacketReceived d s = .ok t) :
    OneStore s t := by
  unfold outPacketReceived at h
  split at h
  · cases h; exact oneStore_of_mem_eq rfl
  dsimp only at h
  split at h
  · split at h
    · cases h; exact oneStore_of_mem_eq rfl
    · exact (takeDataPacket_oneStore h :)
  · split at h <;> cases h
    · exact oneStore_of_mem_eq rfl
    · exact oneStore_of_mem_eq (statusDone_mem _)
  · cases h; exact oneStore_of_mem_eq rfl
  · cases h; exact oneStore_of_mem_eq rfl

theorem finishRead_oneStore {ep : Byte} {a x : Word} {s t : State} (h : finishRead ep a x s = .ok t) :
    OneStore s t := by
  unfold finishRead at h
  split at h
  · cases h; exact oneStore_of_mem_eq rfl
  repeat
    split at h
    · cases h; exact oneStore_of_mem_eq rfl
  rename_i d _
  split at h
  · cases h
  · rename_i u hu
    obtain ⟨b, -, -, rfl⟩ := bufWrite_ok (p := .mem a) hu
    cases h
    exact ⟨b, d.take x.toNat, rfl⟩

theorem exec_oneStore {i : Instr} {s t : State} (h : exec i s = .next t) : OneStore s t := by
  by_cases hw : WritesMemory i
  · obtain ⟨d, rfl⟩ | ⟨ep, a, x, rfl⟩ := hw
    · exact (outPacketReceived_oneStore (operation_next h) :)
    · exact (finishRead_oneStore (operation_next h) :)
  · exact oneStore_of_mem_eq (exec_keeps_mem hw h)

theorem perform_oneStore {x : Input} {s t : State} (h : perform x s = .next t) : OneStore s t := by
  cases x with
  | record bs =>
    cases hd : decodeRecord bs with
    | ok i =>
      rw [perform_record_of_ok s hd] at h
      exact exec_oneStore h
    | error e => rw [perform_record_of_error s hd] at h; cases h
  | callerStore a d => cases h; exact ⟨a, d, rfl⟩
  | callerLend => cases h; exact oneStore_of_mem_eq rfl

theorem step_oneStore {s t : State} (h : step s = .next t) : OneStore s t := by
  cases hn : nextInput s with
  | none => rw [step_of_no_input hn] at h; cases h; exact oneStore_of_mem_eq rfl
  | some p =>
    rw [step_of_nextInput (x := p.1) (rest := p.2) hn] at h
    exact (perform_oneStore h :)

/-- Settles O15: a step stores one run of bytes at most, and a store keeps the form. -/
theorem stepKeepsMemoryForm : Obligations.StepKeepsMemoryForm := by
  intro s t hs h
  exact oneStore_wf (step_oneStore h) hs

/-! ### The machine waits, and the caller's moves -/

/-- What reading finds after a store: its bytes in its range, and every other byte as before. -/
theorem stored_of_writeBytes {s t : State} {a : Word} {d : List Byte} (hs : Memory.wf s.mem = true)
    (hd : d.length ≤ 2 ^ 32) (ht : t.mem = Memory.writeBytes s.mem a d) : Stored s t a d := by
  unfold Stored State.readByte
  rw [ht]
  refine ⟨fun k hk => ?_, fun x hx => read_writeBytes_outside s.mem a d hs x hx⟩
  rw [read_writeBytes_inside s.mem a d hs hd k hk, List.getElem?_eq_getElem hk]

/-- Settles O10, one clause for each thing that can happen between the agents' operations. -/
theorem worldBetweenSteps : Obligations.WorldBetweenSteps := by
  refine fun s rest => ⟨step_of_no_input, fun a d hs hd hnext => ?_, fun regions hnext => step_of_nextInput hnext⟩
  exact ⟨_, step_of_nextInput hnext, stored_of_writeBytes hs hd rfl, rfl⟩

/-! ### What a breach of the buffers says -/

theorem memRead_error {a n : Word} {s : State} {b : Breach} (h : memRead a n s = .error b) :
    n ≠ 0 ∧ s.admits a n = false ∧ b = .bufferFault (.mem a) n := by
  obtain ⟨-, e⟩ | ⟨h0, hadm, e⟩ := memRead_cases a n s <;> rw [e] at h <;> cases h
  exact ⟨h0, hadm, rfl⟩

theorem memWrite_error {a : Word} {d : List Byte} {s : State} {b : Breach} (h : memWrite a d s = .error b) :
    d ≠ [] ∧ s.admits a (BitVec.ofNat 32 d.length) = false ∧
      b = .bufferFault (.mem a) (BitVec.ofNat 32 d.length) := by
  obtain ⟨-, e⟩ | ⟨h0, hadm, e⟩ := memWrite_cases a d s <;> rw [e] at h <;> cases h
  exact ⟨h0, hadm, rfl⟩

/-- A read of REPLY stops only where it leaves the two bytes. -/
theorem bufRead_reply_error {o : BitVec 2} {n : Word} {s : State} {b : Breach}
    (h : bufRead (.reply o) n s = .error b) : 2 < o.toNat + n.toNat := by
  refine Nat.lt_of_not_le fun hle => ?_
  rw [bufRead_reply hle] at h
  cases h

/-- Where a write stops depends on the admitted ranges alone. -/
theorem bufWrite_error_congr {p : BufPtr} {d : List Byte} {s t : State} {b : Breach} (h : bufWrite p d s = .error b)
    (ht : t.tbm = s.tbm) : bufWrite p d t = .error b := by
  cases p with
  | mem a =>
    obtain ⟨h0, hadm, rfl⟩ := memWrite_error h
    exact memWrite_of_missing h0 (by rw [State.admits, ht]; exact hadm)
  | reply | null => exact h

/-! ### Where each body stops -/

theorem respondSend_error {dirIn : Bool} {wl : Half} {p : BufPtr} {size : Word} {notify : Bool} {s : State} {b : Breach}
    (h : respondSend dirIn wl p size notify s = .error b) : ∃ n, b = .bufferFault p n := by
  obtain ⟨-, e⟩ | ⟨-, -, e⟩ := respondSend_cases dirIn wl p size notify s <;> rw [e] at h
  · cases h
  · exact ⟨_, (sendNext_error h).2⟩

/-- A packet of at most two bytes from the start of REPLY is always there. -/
theorem sendNext_reply_ne_error {wl : Half} {size : Word} {notify : Bool} {s : State} {b : Breach}
    (h2 : size.toNat ≤ 2) : sendNext (sendReady wl (.reply 0) size notify s) ≠ .error b := by
  intro h
  have hout : 2 < 0 + (minWord (minWord size (wl.setWidth 32)) s.cfg.mps0.word).toNat :=
    bufRead_reply_error (sendNext_error h).1
  simp only [minWord_toNat] at hout
  omega

/-- Of the standard requests only GET_DESCRIPTOR can stop, on the descriptor's bytes. -/
theorem handler_error {i : Instr} {s : State} {b : Breach} (hk : i.kind = .request) (h : handler i s = .error b) :
    (∃ r, i = .getDescriptor r) ∧ ∃ p n, b = .bufferFault p n := by
  obtain ⟨r, hr⟩ := requestArgs_of_kind hk
  have hcases := handler_cases s hr
  rw [h] at hcases
  generalize hx : (Except.error b : Except Breach State) = x at hcases
  cases hcases with
  | reply v size h0 hd h2 => exact absurd hx.symm (sendNext_reply_ne_error h2)
  | descriptor d h0 hd hi => exact ⟨⟨r, hi⟩, _, _, (sendNext_error hx.symm).2⟩
  | stall | wakeup | halt | unhalt | latch | configuration | interface => cases hx

theorem stdDispatch_error {s : State} {b : Breach} (h : stdDispatch s = .error b) : ∃ p n, b = .bufferFault p n := by
  cases hd : decodeRequest s.ctx.setup with
  | none => rw [stdDispatch_of_none hd] at h; cases h
  | some i =>
    rw [stdDispatch_of_request hd] at h
    exact (handler_error (decodeRequest_args hd).1 h).2

theorem requestAnswered_error {result : RequestResult} {a x : Word} {s : State} {b : Breach}
    (h : requestAnswered result a x s = .error b) :
    (result = .send ∨ result = .passThrough) ∧ ∃ p n, b = .bufferFault p n := by
  unfold requestAnswered at h
  split at h
  · cases h
  dsimp only at h
  cases result with
  | send => exact ⟨.inl rfl, _, respondSend_error h⟩
  | passThrough => exact ⟨.inr rfl, stdDispatch_error h⟩
  | receive | success | failure => cases h

/-- EV_EP0_IN stops where the next packet of an IN data stage cannot be read. -/
theorem inPacketSent_error {s : State} {b : Breach} (h : inPacketSent s = .error b) :
    s.ctx.stage = .dataIn ∧ bufRead s.ctx.ptr (minWord s.ctx.remaining s.cfg.mps0.word) s = .error b := by
  unfold inPacketSent at h
  split at h
  · cases h
  dsimp only at h
  split at h
  case h_1 hstage =>
    split at h
    · exact ⟨hstage, (sendNext_error h).1⟩
    split at h <;> cases h
  all_goals cases h

theorem takeDataPacket_error {d : List Byte} {s : State} {b : Breach} (h : takeDataPacket d s = .error b) :
    bufWrite s.ctx.ptr d s = .error b := by
  unfold takeDataPacket at h
  split at h
  · cases h; assumption
  · dsimp only at h
    split at h <;> cases h

theorem length_le_of_not_badDataPacket {n : Nat} {s : State} (h : badDataPacket n s ≠ true) :
    n ≤ s.cfg.mps0.word.toNat := by
  simp only [badDataPacket, ne_eq, Bool.or_eq_true, decide_eq_true_eq, not_or] at h
  omega

/-- EV_EP0_OUT stops where a packet of an OUT data stage, of at most MPS0 bytes, cannot be stored. -/
theorem outPacketReceived_error {d : List Byte} {s : State} {b : Breach} (h : outPacketReceived d s = .error b) :
    s.ctx.stage = .dataOut ∧ d.length ≤ s.cfg.mps0.word.toNat ∧ bufWrite s.ctx.ptr d s = .error b := by
  unfold outPacketReceived at h
  split at h
  · cases h
  dsimp only at h
  split at h
  case h_1 hstage =>
    split at h
    · cases h
    · rename_i hfits
      have hwrite := takeDataPacket_error h
      exact ⟨hstage, length_le_of_not_badDataPacket hfits, bufWrite_error_congr hwrite rfl⟩
  case h_2 => split at h <;> cases h
  all_goals cases h

theorem startWrite_error {ep : Byte} {a x : Word} {s : State} {b : Breach} (h : startWrite ep a x s = .error b) :
    b = .bufferFault (.mem a) x := by
  unfold startWrite at h
  repeat' split at h
  all_goals cases h
  exact (memRead_error ‹_›).2.2

theorem finishRead_error {ep : Byte} {a x : Word} {s : State} {b : Breach} (h : finishRead ep a x s = .error b) :
    ∃ n, b = .bufferFault (.mem a) n := by
  unfold finishRead at h
  repeat' split at h
  all_goals cases h
  exact ⟨_, (memWrite_error ‹_›).2.2⟩

theorem acquire_error {s : State} {b : Breach} (h : acquire s = .error b) :
    b = .guardOverflow ∧ s.lockDepth = BitVec.allOnes 32 := by
  unfold acquire at h
  split at h <;> cases h
  exact ⟨rfl, ‹_›⟩

theorem release_error {s : State} {b : Breach} (h : release s = .error b) :
    b = .unlockUnderflow ∧ s.lockDepth = 0 := by
  unfold release at h
  split at h <;> cases h
  exact ⟨rfl, ‹_›⟩

theorem assertHeld_error {k : Context} {s : State} {b : Breach} (h : assertHeld k s = .error b) :
    b = .guardNotHeld ∧ k = .thread ∧ s.lockDepth = 0 := by
  unfold assertHeld at h
  split at h <;> cases h
  exact ⟨rfl, ‹_›⟩

/-! ### Every operation -/

/-- The operations whose body can stop, each with its body. -/
inductive BodyMayStop : Instr → (State → Except Breach State) → Prop where
  | evEp0In : BodyMayStop .evEp0In inPacketSent
  | evEp0Out (d : List Byte) : BodyMayStop (.evEp0Out d) (outPacketReceived d)
  | readFinish (ep : Byte) (a x : Word) : BodyMayStop (.readFinish ep a x) (finishRead ep a x)
  | write (ep : Byte) (a x : Word) : BodyMayStop (.write ep a x) (startWrite ep a x)
  | completeRequest (result : RequestResult) (a x : Word) :
      BodyMayStop (.completeRequest result a x) (requestAnswered result a x)
  | lock : BodyMayStop .lock acquire
  | unlock : BodyMayStop .unlock release
  | assertLocked (k : Context) : BodyMayStop (.assertLocked k) (assertHeld k)
  | request {i : Instr} (hk : i.kind = .request) : BodyMayStop i (handler i)

/-- Every operation answers a next state, or is one whose body may stop. -/
theorem exec_next_or_operation (i : Instr) (s : State) :
    (∃ t, exec i s = .next t) ∨ ∃ body, BodyMayStop i body ∧ exec i s = operation i body s := by
  cases hk : i.kind with
  | request => exact .inr ⟨handler i, .request hk, exec_request i s hk⟩
  | operation =>
    cases i
    case evEp0In => exact .inr ⟨_, .evEp0In, rfl⟩
    case evEp0Out d => exact .inr ⟨_, .evEp0Out d, rfl⟩
    case readFinish ep a x => exact .inr ⟨_, .readFinish ep a x, rfl⟩
    case write ep a x => exact .inr ⟨_, .write ep a x, rfl⟩
    case completeRequest result a x => exact .inr ⟨_, .completeRequest result a x, rfl⟩
    case lock => exact .inr ⟨_, .lock, rfl⟩
    case unlock => exact .inr ⟨_, .unlock, rfl⟩
    case assertLocked k => exact .inr ⟨_, .assertLocked k, rfl⟩
    case evPower | evSuspend | evSof | evReset | evEp0Setup | evOut | evIn | connect | epAdd | epRemove | epStall
        | epUnstall | readStart | sofEnable | sofDisable | completeXferDone | completeSetConfiguration
        | completeSetInterface | abort => exact .inl ⟨_, rfl⟩
    all_goals cases hk

theorem exec_ne_refused (i : Instr) (s : State) (r : Refusal) : exec i s ≠ .refused r := by
  obtain ⟨t, e⟩ | ⟨body, -, e⟩ := exec_next_or_operation i s <;> rw [e]
  · nofun
  · exact operation_not_refused

/-- A fault is the breach at which the operation's body stopped. -/
theorem exec_fault {i : Instr} {s : State} {f : Fault} (h : exec i s = .fault f) :
    ∃ body b, BodyMayStop i body ∧ body s.begin = .error b ∧ f = b.raisedBy i := by
  obtain ⟨t, e⟩ | ⟨body, hbody, e⟩ := exec_next_or_operation i s <;> rw [e] at h
  · cases h
  · obtain ⟨b, hb, hf⟩ := operation_fault h
    exact ⟨body, b, hbody, hb, hf⟩

/-- Settles O18: each body that can stop, with the breach at which it does. -/
theorem faultsByOperation : Obligations.FaultsByOperation := by
  refine fun s i => ⟨exec_ne_refused i s, fun f h => ?_⟩
  obtain ⟨body, b, hbody, hb, rfl⟩ := exec_fault h
  cases hbody with
  | lock =>
    obtain ⟨rfl, hdepth⟩ := acquire_error hb
    exact .inl ⟨rfl, rfl, hdepth⟩
  | unlock =>
    obtain ⟨rfl, hdepth⟩ := release_error hb
    exact .inr (.inl ⟨rfl, rfl, hdepth⟩)
  | assertLocked k =>
    obtain ⟨rfl, rfl, hdepth⟩ := assertHeld_error hb
    exact .inr (.inr (.inl ⟨rfl, rfl, hdepth⟩))
  | evEp0In =>
    obtain rfl := bufRead_error (inPacketSent_error hb).2
    exact .inr (.inr (.inr ⟨trivial, _, _, rfl⟩))
  | evEp0Out d =>
    obtain rfl := bufWrite_error (outPacketReceived_error hb).2.2
    exact .inr (.inr (.inr ⟨trivial, _, _, rfl⟩))
  | readFinish ep a x =>
    obtain ⟨n, rfl⟩ := finishRead_error hb
    exact .inr (.inr (.inr ⟨trivial, _, _, rfl⟩))
  | write ep a x =>
    obtain rfl := startWrite_error hb
    exact .inr (.inr (.inr ⟨trivial, _, _, rfl⟩))
  | completeRequest result a x =>
    obtain ⟨rfl | rfl, p, n, rfl⟩ := requestAnswered_error hb
    · exact .inr (.inr (.inr ⟨trivial, _, _, rfl⟩))
    · exact .inr (.inr (.inr ⟨trivial, _, _, rfl⟩))
  | request hk =>
    obtain ⟨⟨r, rfl⟩, p, n, rfl⟩ := handler_error hk hb
    exact .inr (.inr (.inr ⟨trivial, _, _, rfl⟩))

/-! ### The events -/

theorem isEvent_of_request {i : Instr} (hk : i.kind = .request) : i.isEvent = false := by
  cases i <;> cases hk <;> rfl

theorem inPacketSent_error_of_pointer {s : State} {b : Breach} (hp : PointerInBounds s)
    (h : inPacketSent s = .error b) : ∃ a n, b = .bufferFault (.mem a) n ∧ n ≠ 0 ∧ s.admits a n = false := by
  obtain ⟨hstage, hread⟩ := inPacketSent_error h
  obtain ⟨a, e⟩ | ⟨o, e, hroom⟩ := hp.1 hstage <;> rw [e] at hread
  · obtain ⟨h0, hadm, hb⟩ := memRead_error hread
    exact ⟨a, _, hb, h0, hadm⟩
  · have hout := bufRead_reply_error hread
    rw [minWord_toNat] at hout
    omega

theorem outPacketReceived_error_of_pointer {d : List Byte} {s : State} {b : Breach} (hp : PointerInBounds s)
    (h : outPacketReceived d s = .error b) :
    ∃ a n, b = .bufferFault (.mem a) n ∧ n ≠ 0 ∧ s.admits a n = false := by
  obtain ⟨hstage, hlen, hwrite⟩ := outPacketReceived_error h
  obtain ⟨a, e⟩ := hp.2 hstage
  rw [e] at hwrite
  obtain ⟨hd, hadm, hb⟩ := memWrite_error hwrite
  have hmps := mps0_le s.cfg.mps0
  have hpos := List.length_pos_iff.2 hd
  exact ⟨a, _, hb, by bv_omega, hadm⟩

/-- Settles O17: the bodies of two events can stop, each on the bytes its pointer reaches. -/
theorem eventsFaultOnlyOnBuffers : Obligations.EventsFaultOnlyOnBuffers := by
  intro s i f hev hp h
  obtain ⟨body, b, hbody, hb, rfl⟩ := exec_fault h
  have hp' : PointerInBounds s.begin := hp
  cases hbody with
  | evEp0In =>
    obtain ⟨a, n, rfl, hn, hadm⟩ := inPacketSent_error_of_pointer hp' hb
    exact ⟨.inl rfl, a, n, rfl, hn, hadm⟩
  | evEp0Out d =>
    obtain ⟨a, n, rfl, hn, hadm⟩ := outPacketReceived_error_of_pointer hp' hb
    exact ⟨.inr ⟨d, rfl⟩, a, n, rfl, hn, hadm⟩
  | request hk => rw [isEvent_of_request hk] at hev; cases hev
  | readFinish | write | completeRequest | lock | unlock | assertLocked => cases hev

end Sys2Proof.Machine
end

section
/-! The statements of spec/30_encoding.md: records and their operations (R77 to R81), setup packets and the standard
requests they select (R67, R83), and the packets among the outputs (R82). -/

namespace Sys2Proof.Machine

open Sys2Proof.Claims

/-! ### Bytes and fields -/

theorem byte_eq_of_toNat {b : Byte} {n : Nat} (h : b.toNat = n) : b = BitVec.ofNat 8 n := by
  rw [← h, BitVec.ofNat_toNat, BitVec.setWidth_eq]

theorem bytes16_le16 (lo hi : Byte) : bytes16 (le16 lo hi) = [lo, hi] := by
  rw [bytes16, byteAt_le16_lo, byteAt_le16_hi]

theorem bytes32_le32 (x0 x1 x2 x3 : Byte) : bytes32 (le32 x0 x1 x2 x3) = [x0, x1, x2, x3] := by
  obtain ⟨e0, e1, e2, e3⟩ := byteAt_le32 x0 x1 x2 x3
  rw [bytes32, e0, e1, e2, e3]

/-- A 16-bit field holds the frame number `f` where its five upper bits are 0 and the others are `f` (R78). -/
theorem frame_field_iff {v : Half} {f : BitVec 11} :
    v.extractLsb' 11 5 = 0 ∧ v.extractLsb' 0 11 = f ↔ v = f.setWidth 16 := by
  have hv := v.isLt
  have hf := f.isLt
  simp only [← BitVec.toNat_inj, BitVec.extractLsb'_toNat, BitVec.toNat_setWidth, Nat.shiftRight_eq_div_pow,
    BitVec.ofNat_eq_ofNat, BitVec.toNat_ofNat]
  omega

/-- The upper five bits of a 16-bit field are not all 0 exactly where its second byte is 8 or more (R80). -/
theorem frame_bits_iff {lo hi : Byte} : (le16 lo hi).extractLsb' 11 5 ≠ 0 ↔ 8 ≤ hi.toNat := by
  have hlo := lo.isLt
  have hhi := hi.isLt
  simp only [ne_eq, ← BitVec.toNat_inj, BitVec.extractLsb'_toNat, le16_toNat, Nat.shiftRight_eq_div_pow,
    BitVec.ofNat_eq_ofNat, BitVec.toNat_ofNat]
  omega

/-! ### What each reader accepts: its operands' bytes, and whatever follows them -/

section Readers

variable {bs : List Byte} {i : Instr}

theorem readBool_ok_iff {mk : Bool → Instr} :
    readBool mk bs = .ok i ↔ ∃ b rest, bs = boolByte b :: rest ∧ i = mk b := by
  constructor
  · intro h
    unfold readBool at h
    repeat' split at h
    all_goals cases h
    · exact ⟨false, _, congrArg (· :: _) (byte_eq_of_toNat ‹_›), rfl⟩
    · exact ⟨true, _, congrArg (· :: _) (byte_eq_of_toNat ‹_›), rfl⟩
  · rintro ⟨_ | _, rest, rfl, rfl⟩ <;> rfl

theorem readContext_ok_iff {mk : Context → Instr} :
    readContext mk bs = .ok i ↔ ∃ k rest, bs = contextByte k :: rest ∧ i = mk k := by
  constructor
  · intro h
    unfold readContext at h
    repeat' split at h
    all_goals cases h
    · exact ⟨.thread, _, congrArg (· :: _) (byte_eq_of_toNat ‹_›), rfl⟩
    · exact ⟨.interrupt, _, congrArg (· :: _) (byte_eq_of_toNat ‹_›), rfl⟩
  · rintro ⟨_ | _, rest, rfl, rfl⟩ <;> rfl

theorem readFrame_ok_iff {mk : BitVec 11 → Instr} :
    readFrame mk bs = .ok i ↔ ∃ f rest, bs = bytes16 (f.setWidth 16) ++ rest ∧ i = mk f := by
  constructor
  · intro h
    unfold readFrame at h
    repeat' split at h
    all_goals cases h
    rename_i f0 f1 rest hbits
    refine ⟨_, rest, ?_, rfl⟩
    rw [← frame_field_iff.1 ⟨Decidable.not_not.1 hbits, rfl⟩, bytes16_le16]
    rfl
  · rintro ⟨f, rest, rfl, rfl⟩
    obtain ⟨hzero, hframe⟩ := frame_field_iff.2 (rfl : f.setWidth 16 = f.setWidth 16)
    simp only [bytes16, readFrame, List.cons_append, le16_byteAt, hzero, hframe, ne_eq, not_true, if_false]

theorem ofBytes_eq_some_iff {p : SetupPacket} :
    SetupPacket.ofBytes bs = some p ↔ ∃ rest, bs = p.bytes ++ rest := by
  constructor
  · intro h
    unfold SetupPacket.ofBytes at h
    split at h <;> cases h
    exact ⟨_, rfl⟩
  · rintro ⟨rest, rfl⟩
    rfl

theorem readSetup_ok_iff {mk : SetupPacket → Instr} :
    readSetup mk bs = .ok i ↔ ∃ p rest, bs = p.bytes ++ rest ∧ i = mk p := by
  constructor
  · intro h
    unfold readSetup at h
    split at h <;> cases h
    obtain ⟨rest, e⟩ := ofBytes_eq_some_iff.1 ‹_›
    exact ⟨_, rest, e, rfl⟩
  · rintro ⟨p, rest, rfl, rfl⟩
    rfl

theorem readData_ok_iff {mk : List Byte → Instr} :
    readData mk bs = .ok i ↔ ∃ d rest, dataFits d = true ∧
      bs = bytes16 (BitVec.ofNat 16 d.length) ++ d ++ rest ∧ i = mk d := by
  constructor
  · intro h
    unfold readData at h
    repeat' split at h
    all_goals cases h
    rename_i n0 n1 x hlen
    have hd : (x.take (le16 n0 n1).toNat).length = (le16 n0 n1).toNat := List.length_take_of_le (Nat.le_of_not_lt hlen)
    refine ⟨_, x.drop (le16 n0 n1).toNat, ?_, ?_, rfl⟩
    · exact decide_eq_true (Nat.lt_of_le_of_lt (Nat.le_of_eq hd) (le16 n0 n1).isLt)
    · rw [hd, BitVec.ofNat_toNat, BitVec.setWidth_eq, bytes16_le16, List.append_assoc, List.take_append_drop]
      rfl
  · rintro ⟨d, rest, hfits, rfl, rfl⟩
    have hn : (BitVec.ofNat 16 d.length).toNat = d.length := Nat.mod_eq_of_lt (of_decide_eq_true hfits)
    simp [bytes16, readData, hn]

theorem readEp_ok_iff {mk : Byte → Instr} : readEp mk bs = .ok i ↔ ∃ ep rest, bs = ep :: rest ∧ i = mk ep := by
  constructor
  · intro h
    unfold readEp at h
    split at h <;> cases h
    exact ⟨_, _, rfl, rfl⟩
  · rintro ⟨ep, rest, rfl, rfl⟩
    rfl

theorem readEpData_ok_iff {mk : Byte → List Byte → Instr} :
    readEpData mk bs = .ok i ↔ ∃ ep d rest, dataFits d = true ∧
      bs = ep :: (bytes16 (BitVec.ofNat 16 d.length) ++ d ++ rest) ∧ i = mk ep d := by
  constructor
  · intro h
    unfold readEpData at h
    split at h
    · obtain ⟨d, rest, hfits, rfl, rfl⟩ := readData_ok_iff.1 h
      exact ⟨_, d, rest, hfits, rfl, rfl⟩
    · cases h
  · rintro ⟨ep, d, rest, hfits, rfl, rfl⟩
    exact readData_ok_iff.2 ⟨d, rest, hfits, rfl, rfl⟩

theorem readAdd_ok_iff {mk : Byte → Half → Byte → Word → Instr} :
    readAdd mk bs = .ok i ↔ ∃ ep m t c rest, bs = ep :: (bytes16 m ++ t :: bytes32 c) ++ rest ∧ i = mk ep m t c := by
  constructor
  · intro h
    unfold readAdd at h
    split at h <;> cases h
    rename_i rest
    refine ⟨_, _, _, _, rest, ?_, rfl⟩
    rw [bytes16_le16, bytes32_le32]
    rfl
  · rintro ⟨ep, m, t, c, rest, rfl, rfl⟩
    simp [readAdd, bytes16, bytes32]

theorem readBuffer_ok_iff {mk : Byte → Word → Word → Instr} :
    readBuffer mk bs = .ok i ↔ ∃ ep a x rest, bs = ep :: (bytes32 a ++ bytes32 x) ++ rest ∧ i = mk ep a x := by
  constructor
  · intro h
    unfold readBuffer at h
    split at h <;> cases h
    rename_i rest
    refine ⟨_, _, _, rest, ?_, rfl⟩
    rw [bytes32_le32, bytes32_le32]
    rfl
  · rintro ⟨ep, a, x, rest, rfl, rfl⟩
    simp [readBuffer, bytes32]

theorem resultOfCode_resultByte (r : RequestResult) : resultOfCode (resultByte r) = .ok r := by
  cases r <;> rfl

theorem eq_resultByte_of_resultOfCode {b : Byte} {r : RequestResult} (h : resultOfCode b = .ok r) :
    b = resultByte r := by
  unfold resultOfCode at h
  split at h <;> cases h
  all_goals exact byte_eq_of_toNat ‹_›

theorem readAnswer_ok_iff {mk : RequestResult → Word → Word → Instr} :
    readAnswer mk bs = .ok i ↔
      ∃ r a x rest, bs = resultByte r :: (bytes32 a ++ bytes32 x) ++ rest ∧ i = mk r a x := by
  constructor
  · intro h
    unfold readAnswer at h
    repeat' split at h
    all_goals cases h
    rename_i rest _ r hr
    refine ⟨r, _, _, rest, ?_, rfl⟩
    rw [← eq_resultByte_of_resultOfCode hr, bytes32_le32, bytes32_le32]
    rfl
  · rintro ⟨r, a, x, rest, rfl, rfl⟩
    simp [readAnswer, bytes32, resultOfCode_resultByte]

end Readers

/-! ### Records and their operations -/

/-- A record begins with the encoding of the operation it decodes to. -/
theorem encoding_of_decodeRecord {bs : List Byte} {i : Instr} (h : decodeRecord bs = .ok i) :
    i.wellFormed = true ∧ i.kind = .operation ∧ ∃ rest, bs = encode i ++ rest := by
  cases bs with
  | nil => cases h
  | cons op bs =>
    simp only [decodeRecord] at h
    split at h
    case h_28 => cases h
    all_goals obtain rfl := byte_eq_of_toNat ‹_›
    case h_1 | h_2 | h_21 | h_22 | h_23 =>
      obtain ⟨b, rest, rfl, rfl⟩ := readBool_ok_iff.1 h
      exact ⟨rfl, rfl, rest, rfl⟩
    case h_3 =>
      obtain ⟨f, rest, rfl, rfl⟩ := readFrame_ok_iff.1 h
      exact ⟨rfl, rfl, rest, rfl⟩
    case h_5 =>
      obtain ⟨p, rest, rfl, rfl⟩ := readSetup_ok_iff.1 h
      exact ⟨rfl, rfl, rest, rfl⟩
    case h_6 =>
      obtain ⟨d, rest, hfits, rfl, rfl⟩ := readData_ok_iff.1 h
      exact ⟨hfits, rfl, rest, rfl⟩
    case h_8 =>
      obtain ⟨ep, d, rest, hfits, rfl, rfl⟩ := readEpData_ok_iff.1 h
      exact ⟨hfits, rfl, rest, rfl⟩
    case h_9 | h_12 | h_13 | h_14 | h_15 =>
      obtain ⟨ep, rest, rfl, rfl⟩ := readEp_ok_iff.1 h
      exact ⟨rfl, rfl, rest, rfl⟩
    case h_11 =>
      obtain ⟨ep, m, t, c, rest, rfl, rfl⟩ := readAdd_ok_iff.1 h
      exact ⟨rfl, rfl, rest, rfl⟩
    case h_16 | h_17 =>
      obtain ⟨ep, a, x, rest, rfl, rfl⟩ := readBuffer_ok_iff.1 h
      exact ⟨rfl, rfl, rest, rfl⟩
    case h_20 =>
      obtain ⟨r, a, x, rest, rfl, rfl⟩ := readAnswer_ok_iff.1 h
      exact ⟨rfl, rfl, rest, rfl⟩
    case h_27 =>
      obtain ⟨k, rest, rfl, rfl⟩ := readContext_ok_iff.1 h
      exact ⟨rfl, rfl, rest, rfl⟩
    case h_4 | h_7 | h_10 | h_18 | h_19 | h_24 | h_25 | h_26 =>
      cases h
      exact ⟨rfl, rfl, bs, rfl⟩

/-- An operation's encoding, whatever follows it, decodes to the operation. -/
theorem decodeRecord_encode_append {i : Instr} (hw : i.wellFormed = true) (hk : i.kind = .operation)
    (rest : List Byte) : decodeRecord (encode i ++ rest) = .ok i := by
  cases i
  case evPower b | evSuspend b | completeXferDone b | completeSetConfiguration b | completeSetInterface b =>
    exact readBool_ok_iff.2 ⟨b, rest, rfl, rfl⟩
  case evSof f => exact readFrame_ok_iff.2 ⟨f, rest, rfl, rfl⟩
  case evEp0Setup p => exact readSetup_ok_iff.2 ⟨p, rest, rfl, rfl⟩
  case evEp0Out d => exact readData_ok_iff.2 ⟨d, rest, hw, rfl, rfl⟩
  case evOut ep d => exact readEpData_ok_iff.2 ⟨ep, d, rest, hw, rfl, rfl⟩
  case evIn ep | epRemove ep | epStall ep | epUnstall ep | readStart ep =>
    exact readEp_ok_iff.2 ⟨ep, rest, rfl, rfl⟩
  case epAdd ep m t c => exact readAdd_ok_iff.2 ⟨ep, m, t, c, rest, rfl, rfl⟩
  case readFinish ep a x | write ep a x => exact readBuffer_ok_iff.2 ⟨ep, a, x, rest, rfl, rfl⟩
  case completeRequest r a x => exact readAnswer_ok_iff.2 ⟨r, a, x, rest, rfl, rfl⟩
  case assertLocked k => exact readContext_ok_iff.2 ⟨k, rest, rfl, rfl⟩
  case evReset | evEp0In | connect | sofEnable | sofDisable | abort | lock | unlock => rfl
  all_goals cases hk

/-- Settles O3, one direction by what each reader accepts and the other by what it answers to an encoding. -/
theorem recordHasOneMeaning : Obligations.RecordHasOneMeaning := by
  refine fun bs i => ⟨encoding_of_decodeRecord, ?_⟩
  rintro ⟨hw, hk, rest, rfl⟩
  exact decodeRecord_encode_append hw hk rest

/-! ### Setup packets and the requests they select -/

theorem decodeWord_operation_of_ok {bs : List Byte} {i : Instr} (h : decodeRecord bs = .ok i) :
    decodeWord .operation bs = some i := by
  simp only [decodeWord, h]

theorem decodeWord_request_bytes (p : SetupPacket) : decodeWord .request p.bytes = decodeRequest p := rfl

/-- A standard request's setup packet decodes to the request. -/
theorem decodeWord_request_encode {i : Instr} (hk : i.kind = .request) : decodeWord .request (encode i) = some i := by
  cases i <;> cases hk
  all_goals
    rw [encode, decodeWord_request_bytes, decodeRequest, requestPacket_rtype, requestPacket_key, requestPacket_args]
    rfl

/-- Settles O2: the record decoder reads an operation's encoding, and the request map a request's. -/
theorem decodeEncode : Obligations.DecodeEncode := by
  intro i hw
  cases hk : i.kind with
  | operation =>
    have hdec := decodeRecord_encode_append hw hk []
    rw [List.append_nil] at hdec
    exact decodeWord_operation_of_ok hdec
  | request => exact decodeWord_request_encode hk

/-- `bmRequestType` of type Standard is its direction bit over its recipient (R67). -/
theorem requestType_of_standard {b : Byte} (h : b.extractLsb' 5 2 = 0) :
    BitVec.ofBool (b.getLsbD 7) ++ (0#2 ++ b.extractLsb' 0 5) = b := by
  apply BitVec.eq_of_getLsbD_eq
  intro i hi
  simp only [BitVec.getLsbD_append, BitVec.getLsbD_extractLsb']
  by_cases h5 : i < 5
  · simp [h5, show i < 2 + 5 by omega]
  by_cases h7 : i < 7
  · have hbit : b.getLsbD i = false := by
      simpa [show i - 5 < 2 by omega, show 5 + (i - 5) = i by omega] using congrArg (fun v => v.getLsbD (i - 5)) h
    simp [h5, h7, hbit]
  · obtain rfl : i = 7 := by omega
    simp

/-- A packet of type Standard is the setup packet of its own code, recipient and fields. -/
theorem requestPacket_self {p : SetupPacket} (h : p.rtype = 0) : requestPacket p.bRequest p.recip p.args = p := by
  obtain ⟨b0, b1, b2, b3, b4, b5, b6, b7⟩ := p
  simp only [requestPacket, SetupPacket.args, SetupPacket.wValue, SetupPacket.wIndex, SetupPacket.wLength,
    byteAt_le16_lo, byteAt_le16_hi]
  exact congrArg (SetupPacket.mk · b1 b2 b3 b4 b5 b6 b7) (requestType_of_standard h)

theorem key_toNat_of_standard {p : SetupPacket} (h : p.rtype = 0) :
    p.key.toNat = p.recip.toNat + 256 * p.bRequest.toNat := by
  have hr := p.recip.isLt
  have hkey := requestPacket_key p.bRequest p.recip p.args
  rw [requestPacket_self h] at hkey
  rw [hkey, le16_toNat, BitVec.toNat_setWidth]
  omega

/-- The key of a Standard packet fixes all of it but its fields (R83). -/
theorem requestPacket_of_key {p : SetupPacket} {q : Byte} {k : BitVec 5} (h : p.rtype = 0)
    (hkey : p.key.toNat = k.toNat + 256 * q.toNat) : requestPacket q k p.args = p := by
  have hr := p.recip.isLt
  have hk := k.isLt
  rw [key_toNat_of_standard h] at hkey
  obtain rfl : p.recip = k := BitVec.eq_of_toNat_eq (by omega)
  obtain rfl : p.bRequest = q := BitVec.eq_of_toNat_eq (by omega)
  exact requestPacket_self h

/-- A setup packet that selects a request is that request's encoding. -/
theorem encode_of_decodeRequest {p : SetupPacket} {i : Instr} (h : decodeRequest p = some i) : encode i = p.bytes := by
  unfold decodeRequest at h
  split at h
  · cases h
  rename_i hstd
  split at h <;> cases h
  all_goals exact congrArg SetupPacket.bytes (requestPacket_of_key (Decidable.not_not.1 hstd) ‹_›)

/-- Settles O4: a Standard packet is known by its key and its fields, and a request's packet selects the request. -/
theorem requestMap : Obligations.RequestMap := by
  refine fun p i => ⟨fun h => ⟨(decodeRequest_args h).1, encode_of_decodeRequest h⟩, ?_⟩
  rintro ⟨hk, hbytes⟩
  rw [← decodeWord_request_bytes, ← hbytes]
  exact decodeWord_request_encode hk

/-- Settles O1: each record of the spec, evaluated. -/
theorem specRecordsDecode : Obligations.SpecRecordsDecode :=
  ⟨rfl, rfl, rfl, rfl, rfl, rfl, rfl, rfl, rfl⟩

/-! ### Which records are refused (R80) -/

/-- What R80 lets the decoder answer to a record of `len` bytes, where its format needs `needs` and the operand check
`fault` fails, if any: the length is checked first. -/
inductive Judged (needs len : Nat) (fault : Option BadRecord) : Except BadRecord Instr → Prop where
  | short (h : len < needs) : Judged needs len fault (.error .shortRecord)
  | bad (e : BadRecord) (h : needs ≤ len) (hf : fault = some e) : Judged needs len fault (.error e)
  | ok (i : Instr) (h : needs ≤ len) (hf : fault = none) : Judged needs len fault (.ok i)

section Judging

variable {needs len : Nat} {fault : Option BadRecord} {x : Except BadRecord Instr}

theorem judged_short (hx : Judged needs len fault x) (h : len < needs) : x = .error .shortRecord := by
  cases hx with
  | short => rfl
  | bad | ok => omega

theorem judged_bad (hx : Judged needs len fault x) (h : needs ≤ len) {e : BadRecord} (he : fault = some e) :
    x = .error e := by
  cases hx with
  | short => omega
  | bad e' _ hf => rw [Option.some.inj (hf.symm.trans he)]
  | ok i _ hf => cases hf.symm.trans he

theorem judged_ok (hx : Judged needs len fault x) (h : needs ≤ len) (he : fault = none) : ∃ i, x = .ok i := by
  cases hx with
  | short => omega
  | bad e' _ hf => cases hf.symm.trans he
  | ok i => exact ⟨i, rfl⟩

theorem judged_succ (hx : Judged needs len fault x) : Judged (needs + 1) (len + 1) fault x := by
  cases hx with
  | short h => exact .short (Nat.succ_lt_succ h)
  | bad e h hf => exact .bad e (Nat.succ_le_succ h) hf
  | ok i h hf => exact .ok i (Nat.succ_le_succ h) hf

end Judging

section JudgedReaders

variable {fault : List Byte → Option BadRecord}

theorem readBool_judged (mk : Bool → Instr)
    (hf : ∀ b rest, fault (b :: rest) = if 1 < b.toNat then some .badBoolean else none) :
    ∀ bs, Judged 2 (bs.length + 1) (fault bs) (readBool mk bs)
  | [] => .short (by simp)
  | b :: rest => by
    have hlen : 2 ≤ (b :: rest).length + 1 := by simp
    simp only [readBool]
    split
    case h_1 hb | h_2 hb => exact .ok _ hlen (by rw [hf, hb]; rfl)
    case h_3 h0 h1 => exact .bad _ hlen (by rw [hf, if_pos (Nat.one_lt_iff_ne_zero_and_ne_one.2 ⟨h0, h1⟩)])

theorem readContext_judged (mk : Context → Instr)
    (hf : ∀ b rest, fault (b :: rest) = if 1 < b.toNat then some .badContext else none) :
    ∀ bs, Judged 2 (bs.length + 1) (fault bs) (readContext mk bs)
  | [] => .short (by simp)
  | b :: rest => by
    have hlen : 2 ≤ (b :: rest).length + 1 := by simp
    simp only [readContext]
    split
    case h_1 hb | h_2 hb => exact .ok _ hlen (by rw [hf, hb]; rfl)
    case h_3 h0 h1 => exact .bad _ hlen (by rw [hf, if_pos (Nat.one_lt_iff_ne_zero_and_ne_one.2 ⟨h0, h1⟩)])

theorem readFrame_judged (mk : BitVec 11 → Instr)
    (hf : ∀ f0 f1 rest, fault (f0 :: f1 :: rest) = if 8 ≤ f1.toNat then some .badFrame else none) :
    ∀ bs, Judged 3 (bs.length + 1) (fault bs) (readFrame mk bs)
  | [] | [_] => .short (by simp)
  | f0 :: f1 :: rest => by
    have hlen : 3 ≤ (f0 :: f1 :: rest).length + 1 := by simp
    simp only [readFrame]
    split
    case isTrue h => exact .bad _ hlen (by rw [hf, if_pos (frame_bits_iff.1 h)])
    case isFalse h => exact .ok _ hlen (by rw [hf, if_neg (mt frame_bits_iff.2 h)])

/-- A result code is one of R75's five, or refused. -/
theorem resultOfCode_cases (r : Byte) :
    (r.toNat ≤ 4 ∧ ∃ res, resultOfCode r = .ok res) ∨ (4 < r.toNat ∧ resultOfCode r = .error .badResult) := by
  unfold resultOfCode
  split
  case h_6 =>
    have hr : 4 < r.toNat := by simp only [imp_false] at *; omega
    exact .inr ⟨hr, rfl⟩
  all_goals exact .inl ⟨by omega, _, rfl⟩

theorem readAnswer_judged (mk : RequestResult → Word → Word → Instr)
    (hf : ∀ r rest, fault (r :: rest) = if 4 < r.toNat then some .badResult else none) :
    ∀ bs, Judged 10 (bs.length + 1) (fault bs) (readAnswer mk bs)
  | [] | [_] | [_, _] | [_, _, _] | [_, _, _, _] | [_, _, _, _, _] | [_, _, _, _, _, _] | [_, _, _, _, _, _, _]
  | [_, _, _, _, _, _, _, _] => .short (by simp)
  | r :: a0 :: a1 :: a2 :: a3 :: x0 :: x1 :: x2 :: x3 :: rest => by
    have hlen : 10 ≤ (r :: a0 :: a1 :: a2 :: a3 :: x0 :: x1 :: x2 :: x3 :: rest).length + 1 := by simp
    unfold readAnswer
    obtain ⟨hr, res, e⟩ | ⟨hr, e⟩ := resultOfCode_cases r <;> simp only [e]
    · exact .ok _ hlen (by rw [hf, if_neg (Nat.not_lt_of_le hr)])
    · exact .bad _ hlen (by rw [hf, if_pos hr])

theorem readEp_judged (mk : Byte → Instr) : ∀ bs, Judged 2 (bs.length + 1) none (readEp mk bs)
  | [] => .short (by simp)
  | _ :: _ => .ok _ (by simp) rfl

theorem readSetup_judged (mk : SetupPacket → Instr) : ∀ bs, Judged 9 (bs.length + 1) none (readSetup mk bs)
  | [] | [_] | [_, _] | [_, _, _] | [_, _, _, _] | [_, _, _, _, _] | [_, _, _, _, _, _]
  | [_, _, _, _, _, _, _] => .short (by simp)
  | _ :: _ :: _ :: _ :: _ :: _ :: _ :: _ :: _ => .ok _ (by simp) rfl

theorem readAdd_judged (mk : Byte → Half → Byte → Word → Instr) :
    ∀ bs, Judged 9 (bs.length + 1) none (readAdd mk bs)
  | [] | [_] | [_, _] | [_, _, _] | [_, _, _, _] | [_, _, _, _, _] | [_, _, _, _, _, _]
  | [_, _, _, _, _, _, _] => .short (by simp)
  | _ :: _ :: _ :: _ :: _ :: _ :: _ :: _ :: _ => .ok _ (by simp) rfl

theorem readBuffer_judged (mk : Byte → Word → Word → Instr) :
    ∀ bs, Judged 10 (bs.length + 1) none (readBuffer mk bs)
  | [] | [_] | [_, _] | [_, _, _] | [_, _, _, _] | [_, _, _, _, _] | [_, _, _, _, _, _] | [_, _, _, _, _, _, _]
  | [_, _, _, _, _, _, _, _] => .short (by simp)
  | _ :: _ :: _ :: _ :: _ :: _ :: _ :: _ :: _ :: _ => .ok _ (by simp) rfl

theorem readData_judged (mk : List Byte → Instr) :
    ∀ bs, Judged (recordNeeds 0x05 bs) (bs.length + 1) none (readData mk bs)
  | [] | [_] => .short (by simp [recordNeeds])
  | n0 :: n1 :: d => by
    have hneeds : recordNeeds 0x05 (n0 :: n1 :: d) = 3 + (le16 n0 n1).toNat := by
      rw [le16_toNat, ← Nat.add_assoc]; rfl
    have hlen : (n0 :: n1 :: d).length + 1 = 3 + d.length := by simp; omega
    rw [hneeds, hlen]
    simp only [readData]
    split
    case isTrue h => exact .short (by omega)
    case isFalse h => exact .ok _ (by omega) rfl

/-- EV_OUT's record is EV_EP0_OUT's with an endpoint address before the data (R78). -/
theorem recordNeeds_evOut (ep : Byte) : ∀ bs, recordNeeds 0x07 (ep :: bs) = recordNeeds 0x05 bs + 1
  | [] | [_] => rfl
  | n0 :: n1 :: _ => by
    show 4 + n0.toNat + 256 * n1.toNat = 3 + n0.toNat + 256 * n1.toNat + 1
    omega

theorem readEpData_judged (mk : Byte → List Byte → Instr) :
    ∀ bs, Judged (recordNeeds 0x07 bs) (bs.length + 1) none (readEpData mk bs)
  | [] => .short (by simp [recordNeeds])
  | ep :: bs => by
    rw [recordNeeds_evOut]
    exact judged_succ (readData_judged (mk ep) bs)

end JudgedReaders

/-- The decoder judges a record whose op byte is not reserved by its format's length and operand check. -/
theorem decodeRecord_judged {op : Byte} (h : ¬ReservedOp op) (rest : List Byte) :
    Judged (recordNeeds op rest) (rest.length + 1) (operandFault op rest) (decodeRecord (op :: rest)) := by
  simp only [decodeRecord]
  split
  case h_28 =>
    unfold ReservedOp at h
    simp only [imp_false] at *
    omega
  all_goals obtain rfl := byte_eq_of_toNat ‹_›
  case h_1 | h_2 | h_21 | h_22 | h_23 => exact readBool_judged _ (fun _ _ => rfl) rest
  case h_3 => exact readFrame_judged _ (fun _ _ _ => rfl) rest
  case h_5 => exact readSetup_judged _ rest
  case h_6 => exact readData_judged _ rest
  case h_8 => exact readEpData_judged _ rest
  case h_9 | h_12 | h_13 | h_14 | h_15 => exact readEp_judged _ rest
  case h_11 => exact readAdd_judged _ rest
  case h_16 | h_17 => exact readBuffer_judged _ rest
  case h_20 => exact readAnswer_judged _ (fun _ _ => rfl) rest
  case h_27 => exact readContext_judged _ (fun _ _ => rfl) rest
  case h_4 | h_7 | h_10 | h_18 | h_19 | h_24 | h_25 | h_26 => exact .ok _ (Nat.le_add_left 1 rest.length) rfl

theorem decodeRecord_of_reserved {op : Byte} (h : ReservedOp op) (rest : List Byte) :
    decodeRecord (op :: rest) = .error .reservedOp := by
  unfold ReservedOp at h
  simp only [decodeRecord]
  split
  case h_28 => rfl
  all_goals omega

/-- Settles O5: a reserved op byte, and beside it the length and the operand check of the format. -/
theorem decoderRefusals : Obligations.DecoderRefusals := by
  refine ⟨rfl, fun op rest => ⟨fun h => decodeRecord_of_reserved h rest, fun h hlen => ?_, fun h hlen => ?_⟩⟩
  · exact judged_short (decodeRecord_judged h rest) hlen
  · cases hf : operandFault op rest with
    | none => exact judged_ok (decodeRecord_judged h rest) hlen hf
    | some e => exact judged_bad (decodeRecord_judged h rest) hlen hf

/-! ### Packets handed to the PHY (R82) -/

/-- A packet handed to the PHY fits: it has at most MPS0 bytes on endpoint 0, and on another endpoint at most the slot's
max packet size (R82). Other outputs hand over none. -/
def Fits (s : State) : Output → Prop
  | .ep0Write d => d.length ≤ mps0 s
  | .endpointWrite ep d => ∃ j, IsSlot ep j ∧ d.length ≤ (s.et[j.val]).mps.toNat
  | _ => True

/-- Every packet among the outputs of `t` fits its endpoint as `s` has it. -/
def OutFits (s t : State) : Prop :=
  ∀ o ∈ t.out, Fits s o

theorem mps0_eq (s : State) : mps0 s = s.cfg.mps0.word.toNat := by
  unfold mps0
  cases s.cfg.mps0 <;> rfl

theorem isSlot_of_epSlot {ep : Byte} {i : Fin 30} (h : epSlot ep = some i) : IsSlot ep i := by
  unfold epSlot at h
  split at h
  case isFalse => cases h
  case isTrue hv =>
    cases h
    have hvalid := hv.1
    simp only [validEp, Bool.and_eq_true, beq_iff_eq, bne_iff_ne] at hvalid
    exact ⟨hvalid.1, hvalid.2, rfl⟩

section Packets

variable {s u t : State}

theorem outFits_begin (s : State) : OutFits s s.begin := by
  intro o ho
  cases ho

theorem outFits_emit {o : Output} (h : OutFits s u) (ho : Fits s o) : OutFits s (u.emit o) := by
  intro o' hmem
  rcases List.mem_append.1 hmem with hu | hnew
  · exact h o' hu
  · exact List.mem_singleton.1 hnew ▸ ho

theorem outFits_changeState (new : Lifecycle) (h : OutFits s u) : OutFits s (changeState new u) := by
  rcases changeState_cases new u with ⟨-, e⟩ | ⟨-, -, e⟩ | ⟨-, -, e⟩ <;> rw [e]
  · exact h
  · exact outFits_emit h trivial
  · exact outFits_emit h trivial

theorem outFits_abortStall (c : StallCause) (h : OutFits s u) : OutFits s (abortStall c u) :=
  outFits_emit h trivial

theorem outFits_enterStatusIn (h : OutFits s u) : OutFits s (enterStatusIn u) :=
  outFits_emit h (Nat.zero_le _)

theorem outFits_enterStatusOut (h : OutFits s u) : OutFits s (enterStatusOut u) :=
  outFits_emit h trivial

theorem outFits_statusStart (h : OutFits s u) : OutFits s (statusStart u) := by
  rcases statusStart_cases u with ⟨-, e⟩ | ⟨-, e⟩ <;> rw [e]
  · exact outFits_enterStatusOut h
  · exact outFits_enterStatusIn h

theorem outFits_dataStageDone (h : OutFits s u) : OutFits s (dataStageDone u) := by
  rcases dataStageDone_cases u with ⟨-, e⟩ | ⟨-, e⟩ <;> rw [e]
  · exact outFits_emit h trivial
  · exact outFits_statusStart h

theorem outFits_statusDone (h : OutFits s u) : OutFits s (statusDone u) := by
  rcases statusDone_cases u with ⟨-, e⟩ | ⟨-, -, e⟩ | ⟨-, -, e⟩ <;> rw [e]
  · exact h
  · exact outFits_changeState _ (outFits_emit h trivial)
  · exact outFits_changeState _ (outFits_emit h trivial)

/-- SendNext's packet has at most MPS0 bytes (R93). -/
theorem outFits_sendNext (h : sendNext u = .ok t) (hu : OutFits s u) (hc : u.cfg = s.cfg) : OutFits s t := by
  obtain ⟨d, -, hlen, rfl⟩ := sendNext_ok h
  refine outFits_emit hu ?_
  show d.length ≤ mps0 s
  rw [mps0_eq, ← hc, hlen]
  exact Nat.min_le_right _ _

theorem outFits_respondSend {dirIn : Bool} {wl : Half} {p : BufPtr} {size : Word} {notify : Bool}
    (h : respondSend dirIn wl p size notify u = .ok t) (hu : OutFits s u) (hc : u.cfg = s.cfg) : OutFits s t := by
  rcases respondSend_cases dirIn wl p size notify u with ⟨-, e⟩ | ⟨-, -, e⟩ <;> rw [e] at h
  · cases h
    exact outFits_abortStall _ hu
  · exact outFits_sendNext h hu hc

theorem outFits_respondReceive (dirIn : Bool) (wl : Half) (p : BufPtr) (size : Word) (notify : Bool)
    (h : OutFits s u) : OutFits s (respondReceive dirIn wl p size notify u) := by
  rcases respondReceive_cases dirIn wl p size notify u with e | ⟨-, -, -, e⟩ <;> rw [e]
  · exact outFits_abortStall _ h
  · exact outFits_emit h trivial

theorem outFits_respondSuccess (wl : Half) (notify : Bool) (h : OutFits s u) :
    OutFits s (respondSuccess wl notify u) := by
  rcases respondSuccess_cases wl notify u with ⟨-, e⟩ | ⟨-, e⟩ <;> rw [e]
  · exact outFits_abortStall _ h
  · exact outFits_enterStatusIn h

theorem outFits_stallEp (ep : Byte) (i : Fin 30) (h : OutFits s u) : OutFits s (stallEp ep i u) := by
  unfold stallEp
  split
  · exact outFits_emit (outFits_emit h trivial) trivial
  · exact outFits_emit h trivial

theorem outFits_unstallEp (ep : Byte) (i : Fin 30) (h : OutFits s u) : OutFits s (unstallEp ep i u) :=
  outFits_emit h trivial

theorem outFits_of_handled {i : Instr} {r : RequestArgs} (h : Handled i r u (.ok t)) (hu : OutFits s u)
    (hc : u.cfg = s.cfg) : OutFits s t := by
  generalize hx : (Except.ok t : Except Breach State) = x at h
  cases h with
  | stall c => cases hx; exact outFits_abortStall c hu
  | reply | descriptor => exact outFits_sendNext hx.symm hu hc
  | halt j => cases hx; exact outFits_enterStatusIn (outFits_stallEp _ j hu)
  | unhalt j => cases hx; exact outFits_enterStatusIn (outFits_unstallEp _ j hu)
  | wakeup | latch => cases hx; exact outFits_enterStatusIn hu
  | configuration | interface => cases hx; exact outFits_emit hu trivial

theorem outFits_handler {i : Instr} (hk : i.kind = .request) (h : handler i u = .ok t) (hu : OutFits s u)
    (hc : u.cfg = s.cfg) : OutFits s t := by
  obtain ⟨r, hr⟩ := requestArgs_of_kind hk
  exact outFits_of_handled (h ▸ handler_cases u hr) hu hc

theorem outFits_stdDispatch (h : stdDispatch u = .ok t) (hu : OutFits s u) (hc : u.cfg = s.cfg) : OutFits s t := by
  cases hd : decodeRequest u.ctx.setup with
  | none =>
    rw [stdDispatch_of_none hd] at h
    cases h
    exact outFits_abortStall _ hu
  | some i =>
    rw [stdDispatch_of_request hd] at h
    exact outFits_handler (decodeRequest_args hd).1 h hu hc

theorem outFits_inPacketSent (h : inPacketSent u = .ok t) (hu : OutFits s u) (hc : u.cfg = s.cfg) : OutFits s t := by
  unfold inPacketSent at h
  split at h
  · cases h; exact outFits_abortStall _ hu
  dsimp only at h
  split at h
  · split at h
    · exact outFits_sendNext h hu hc
    split at h <;> cases h
    · exact outFits_emit hu (Nat.zero_le _)
    · exact outFits_dataStageDone hu
  · cases h; exact outFits_statusDone hu
  · cases h; exact outFits_abortStall _ hu
  · cases h; exact outFits_abortStall _ hu

theorem outFits_takeDataPacket {d : List Byte} (h : takeDataPacket d u = .ok t) (hu : OutFits s u) : OutFits s t := by
  unfold takeDataPacket at h
  split at h
  · cases h
  · rename_i v hv
    obtain ⟨a, -, -, rfl⟩ := bufWrite_ok hv
    dsimp only at h
    split at h <;> cases h
    · exact outFits_dataStageDone hu
    · exact outFits_emit hu trivial

theorem outFits_outPacketReceived {d : List Byte} (h : outPacketReceived d u = .ok t) (hu : OutFits s u) :
    OutFits s t := by
  unfold outPacketReceived at h
  split at h
  · cases h; exact outFits_abortStall _ hu
  dsimp only at h
  split at h
  · split at h
    · cases h; exact outFits_abortStall _ hu
    · exact outFits_takeDataPacket h hu
  · split at h <;> cases h
    · exact outFits_abortStall _ hu
    · exact outFits_statusDone hu
  · cases h; exact outFits_abortStall _ hu
  · cases h; exact outFits_abortStall _ hu

theorem outFits_requestAnswered {result : RequestResult} {a x : Word} (h : requestAnswered result a x u = .ok t)
    (hu : OutFits s u) (hc : u.cfg = s.cfg) : OutFits s t := by
  unfold requestAnswered at h
  split at h
  · cases h; exact hu
  dsimp only at h
  cases result with
  | receive => cases h; exact outFits_respondReceive _ _ _ _ _ hu
  | send => exact outFits_respondSend (notify := true) h hu hc
  | success => cases h; exact outFits_respondSuccess _ _ hu
  | failure => cases h; exact outFits_abortStall _ hu
  | passThrough => exact outFits_stdDispatch h hu hc

theorem outFits_transferAnswered (success : Bool) (hu : OutFits s u) : OutFits s (transferAnswered success u) := by
  unfold transferAnswered
  split
  · exact hu
  split
  · exact outFits_abortStall _ hu
  · exact outFits_statusStart hu

theorem outFits_configurationSet (success : Bool) (hu : OutFits s u) : OutFits s (configurationSet success u) := by
  unfold configurationSet
  split
  · exact hu
  split
  · exact outFits_abortStall _ hu
  · refine outFits_respondSuccess _ _ ?_
    split <;> exact outFits_changeState _ hu

theorem outFits_interfaceSet (success : Bool) (hu : OutFits s u) : OutFits s (interfaceSet success u) := by
  unfold interfaceSet
  split
  · exact hu
  split
  · exact outFits_abortStall _ hu
  · exact outFits_respondSuccess _ _ hu

theorem outFits_explicitAbort (hu : OutFits s u) : OutFits s (explicitAbort u) := by
  unfold explicitAbort
  split
  · exact hu
  · exact outFits_abortStall _ hu

theorem outFits_busReset (hu : OutFits s u) : OutFits s (busReset u) :=
  outFits_changeState _ (outFits_emit hu trivial)

theorem outFits_addEndpoint (ep : Byte) (m : Half) (ty : Byte) (c : Word) (hu : OutFits s u) :
    OutFits s (addEndpoint ep m ty c u) := by
  unfold addEndpoint
  repeat
    split
    · exact hu
  dsimp only
  split <;> exact outFits_emit hu trivial

theorem outFits_removeEndpoint (ep : Byte) (hu : OutFits s u) : OutFits s (removeEndpoint ep u) := by
  unfold removeEndpoint
  split
  · exact hu
  · refine outFits_emit ?_ trivial
    split
    · exact outFits_emit hu trivial
    · exact hu

theorem outFits_startRead (ep : Byte) (hu : OutFits s u) : OutFits s (startRead ep u) := by
  unfold startRead
  repeat' split
  · exact hu
  · exact hu
  · exact hu
  · exact outFits_emit hu trivial

theorem outFits_packetArrived (ep : Byte) (d : List Byte) (hu : OutFits s u) : OutFits s (packetArrived ep d u) := by
  unfold packetArrived
  repeat' split
  · exact hu
  · exact outFits_emit hu trivial
  · exact hu

theorem outFits_packetSent (ep : Byte) (hu : OutFits s u) : OutFits s (packetSent ep u) := by
  unfold packetSent
  repeat' split
  · exact hu
  · exact outFits_emit hu trivial
  · exact hu

theorem memRead_length {a n : Word} {d : List Byte} (h : memRead a n s = .ok d) : d.length = n.toNat :=
  bufRead_length (p := .mem a) h

/-- WRITE's packet is as long as its size operand, which is at most the endpoint's max packet size (R128). -/
theorem outFits_startWrite {ep : Byte} {a x : Word} (h : startWrite ep a x u = .ok t) (hu : OutFits s u)
    (he : u.et = s.et) : OutFits s t := by
  unfold startWrite at h
  split at h
  · cases h; exact hu
  rename_i i hi
  obtain ⟨-, hslot, -⟩ := inSlot_some.1 hi
  split at h
  · cases h; exact hu
  rename_i hx
  split at h
  · cases h; exact hu
  split at h
  · cases h; exact hu
  split at h
  · cases h
  rename_i d hd
  cases h
  refine outFits_emit hu ⟨i, isSlot_of_epSlot hslot, ?_⟩
  have hmps := (u.ep i).mps.isLt
  rw [BitVec.lt_def, BitVec.toNat_setWidth] at hx
  rw [memRead_length hd, ← he]
  show x.toNat ≤ (u.ep i).mps.toNat
  omega

theorem outFits_finishRead {ep : Byte} {a x : Word} (h : finishRead ep a x u = .ok t) (hu : OutFits s u) :
    OutFits s t := by
  unfold finishRead at h
  repeat
    split at h
    · cases h; exact hu
  split at h
  · cases h
  · rename_i v hv
    obtain ⟨b, -, -, rfl⟩ := bufWrite_ok (p := .mem a) hv
    cases h
    exact hu

theorem outFits_acquire (h : acquire u = .ok t) (hu : OutFits s u) : OutFits s t := by
  unfold acquire at h
  split at h <;> cases h
  exact hu

theorem outFits_release (h : release u = .ok t) (hu : OutFits s u) : OutFits s t := by
  unfold release at h
  split at h <;> cases h
  exact hu

theorem outFits_assertHeld {k : Context} (h : assertHeld k u = .ok t) (hu : OutFits s u) : OutFits s t := by
  unfold assertHeld at h
  split at h <;> cases h
  exact hu

theorem outFits_plainOperation {body : State → State} (hb : ∀ {u}, OutFits s u → OutFits s (body u))
    (h : plainOperation body s = .next t) : OutFits s t := by
  rw [plainOperation_next h]
  exact hb (outFits_begin s)

theorem outFits_execEvSof {f : BitVec 11} (h : execEvSof f s = .next t) : OutFits s t := by
  refine outFits_plainOperation (fun hu => ?_) h
  split
  · exact outFits_emit hu trivial
  · exact hu

theorem outFits_execConnect (h : execConnect s = .next t) : OutFits s t := by
  refine outFits_plainOperation (fun hu => ?_) h
  split
  · exact outFits_changeState _ (outFits_emit hu trivial)
  · exact outFits_emit hu trivial

theorem outFits_execEpStall {ep : Byte} (h : execEpStall ep s = .next t) : OutFits s t := by
  refine outFits_plainOperation (fun hu => ?_) h
  split
  · exact hu
  · exact outFits_stallEp ep _ hu

theorem outFits_execEpUnstall {ep : Byte} (h : execEpUnstall ep s = .next t) : OutFits s t := by
  refine outFits_plainOperation (fun hu => ?_) h
  split
  · exact hu
  · exact outFits_emit hu trivial

/-- Every packet an operation hands to the PHY fits its endpoint. -/
theorem exec_outFits {i : Instr} (h : exec i s = .next t) : OutFits s t := by
  have h0 := outFits_begin s
  cases hk : i.kind with
  | request =>
    rw [exec_request i s hk] at h
    exact outFits_handler hk (operation_next h) h0 rfl
  | operation =>
    cases i
    case evEp0In => exact outFits_inPacketSent (operation_next h) h0 rfl
    case evEp0Out => exact outFits_outPacketReceived (operation_next h) h0
    case completeRequest => exact outFits_requestAnswered (operation_next h) h0 rfl
    case write => exact outFits_startWrite (operation_next h) h0 rfl
    case readFinish => exact outFits_finishRead (operation_next h) h0
    case lock => exact outFits_acquire (operation_next h) h0
    case unlock => exact outFits_release (operation_next h) h0
    case assertLocked => exact outFits_assertHeld (operation_next h) h0
    case evSof => exact outFits_execEvSof h
    case connect => exact outFits_execConnect h
    case epStall => exact outFits_execEpStall h
    case epUnstall => exact outFits_execEpUnstall h
    case evSuspend => cases h; exact h0
    case evPower | evEp0Setup | sofEnable | sofDisable => cases h; exact outFits_emit h0 trivial
    case evReset => exact outFits_plainOperation outFits_busReset h
    case evOut ep d => exact outFits_plainOperation (outFits_packetArrived ep d) h
    case evIn ep => exact outFits_plainOperation (outFits_packetSent ep) h
    case epAdd ep m ty c => exact outFits_plainOperation (outFits_addEndpoint ep m ty c) h
    case epRemove ep => exact outFits_plainOperation (outFits_removeEndpoint ep) h
    case readStart ep => exact outFits_plainOperation (outFits_startRead ep) h
    case completeXferDone b => exact outFits_plainOperation (outFits_transferAnswered b) h
    case completeSetConfiguration b => exact outFits_plainOperation (outFits_configurationSet b) h
    case completeSetInterface b => exact outFits_plainOperation (outFits_interfaceSet b) h
    case abort => exact outFits_plainOperation outFits_explicitAbort h
    all_goals cases hk

end Packets

/-- Settles O25, one clause for each of the two commands that hand the PHY a packet. -/
theorem packetsFitTheirEndpoint : Obligations.PacketsFitTheirEndpoint := by
  intro s t i h
  have hfit := exec_outFits h
  exact ⟨fun d hd => hfit _ hd, fun ep d hd => hfit _ hd⟩

end Sys2Proof.Machine
end

section
/-! The statements of spec/40_ep0_transfer.md: what the three endpoint-0 events do in each stage (R97, R98, R99), and the
packets a whole data stage takes (R100, R101). -/

namespace Sys2Proof.Machine

open Sys2Proof.Claims

/-! ### The shared routines, from the start of a step -/

theorem dataStageDone_begin (s : State) : dataStageDone s.begin = stageEnded s := by
  unfold stageEnded
  rcases dataStageDone_cases s.begin with ⟨hn, e⟩ | ⟨hn, e⟩ <;> rw [begin_ctx] at hn <;> rw [e, hn]
  · rfl
  · rcases statusStart_cases s.begin with ⟨hd, e⟩ | ⟨hd, e⟩ <;> rw [begin_ctx] at hd <;> rw [e]
    · rw [if_neg Bool.false_ne_true, if_pos hd]; rfl
    · rw [if_neg Bool.false_ne_true, if_neg hd]; rfl

theorem changeState_emitting (new : Lifecycle) (os : List Output) (s : State) :
    changeState new (emitting os s) = moved new os s := by
  unfold moved
  rcases changeState_cases new (emitting os s) with ⟨h, e⟩ | ⟨h, hc, e⟩ | ⟨h, hc, e⟩ <;> rw [e]
  · exact (if_pos h.symm).symm
  · simp only [if_pos hc]
    exact (if_neg (Ne.symm h)).symm
  · simp only [if_neg hc]
    exact (if_neg (Ne.symm h)).symm

theorem statusDone_begin (s : State) : statusDone s.begin = transferEnded s := by
  unfold transferEnded
  rcases statusDone_cases s.begin with ⟨hv, e⟩ | ⟨hv, ha, e⟩ | ⟨hv, ha, e⟩ <;> rw [begin_ctx] at hv <;> rw [e, hv]
  · rfl
  · rw [begin_ctx] at ha
    rw [if_pos rfl, if_neg ha]
    exact changeState_emitting _ _ { s with ctx := Ctx.reset, address := s.ctx.pendAddr }
  · rw [begin_ctx] at ha
    rw [if_pos rfl, if_pos ha, ha]
    exact changeState_emitting _ _ { s with ctx := Ctx.reset, address := 0 }

/-! ### EV_EP0_SETUP (R97) -/

/-- Settles O29: the transfer is dropped whole, and what is left is the new packet waiting for its answer. -/
theorem setupIsAlwaysTaken : Obligations.SetupIsAlwaysTaken := fun _ _ => rfl

/-! ### EV_EP0_IN (R98), case by case -/

/-- The packet handed to the PHY is no longer outstanding. -/
def State.inReported (s : State) : State :=
  { s with ctx := { s.ctx with ep0InBusy := false } }

section InEvent

variable {s : State}

theorem inPacketSent_of_idle (h : s.ctx.ep0InBusy = false) :
    inPacketSent s = .ok (abortStall .unexpectedEvent s) := by
  simp only [inPacketSent, h, if_true]

theorem inPacketSent_of_status (hb : s.ctx.ep0InBusy = true) (hs : s.ctx.stage = .status) :
    inPacketSent s = .ok (statusDone s.inReported) := by
  simp only [inPacketSent, State.inReported, hb, hs, Bool.true_eq_false, if_false]

/-- Outside the stages that send, the event STALLs whether or not a packet is outstanding. -/
theorem inPacketSent_of_not_sending (hs : s.ctx.stage = .setup ∨ s.ctx.stage = .dataOut) :
    inPacketSent s = .ok (abortStall .unexpectedEvent s) := by
  unfold inPacketSent
  split
  · rfl
  · rcases hs with hs | hs <;> rw [hs] <;> rfl

theorem inPacketSent_of_remaining (hb : s.ctx.ep0InBusy = true) (hs : s.ctx.stage = .dataIn)
    (hr : 0 < s.ctx.remaining.toNat) : inPacketSent s = sendNext s.inReported := by
  have hpos : 0 < s.ctx.remaining := hr
  simp only [inPacketSent, State.inReported, hb, hs, hpos, Bool.true_eq_false, if_false, if_true]

theorem inPacketSent_of_zlp (hb : s.ctx.ep0InBusy = true) (hs : s.ctx.stage = .dataIn) (hr : s.ctx.remaining = 0)
    (hz : s.ctx.zlp = true) :
    inPacketSent s = .ok ({ s with ctx := { s.ctx with zlp := false, ep0InBusy := true } }.emit (.ep0Write [])) := by
  have hpos : ¬0 < (0 : Word) := by decide
  simp only [inPacketSent, hb, hs, hr, hz, hpos, Bool.true_eq_false, if_false, if_true]

theorem inPacketSent_of_last (hb : s.ctx.ep0InBusy = true) (hs : s.ctx.stage = .dataIn) (hr : s.ctx.remaining = 0)
    (hz : s.ctx.zlp = false) : inPacketSent s = .ok (dataStageDone s.inReported) := by
  have hpos : ¬0 < (0 : Word) := by decide
  simp only [inPacketSent, State.inReported, hb, hs, hr, hz, hpos, Bool.true_eq_false, Bool.false_eq_true, if_false]

end InEvent

/-- Settles O31: a STALL where no packet was outstanding, the end of the data stage where the last one was. -/
theorem inEventEndsStage : Obligations.InEventEndsStage := by
  refine fun s => ⟨fun h => ?_, fun hb hs hr hz => ?_⟩
  · rcases h with hb | hs
    · exact operation_of_ok (inPacketSent_of_idle (s := s.begin) hb)
    · exact operation_of_ok (inPacketSent_of_not_sending (s := s.begin) hs)
  · exact operation_of_ok ((inPacketSent_of_last (s := s.begin) hb hs hr hz).trans
      (congrArg Except.ok (dataStageDone_begin s.inReported)))

/-! ### EV_EP0_OUT (R99), case by case -/

/-- The packet endpoint 0 was armed for has arrived. -/
def State.outReported (s : State) : State :=
  { s with ctx := { s.ctx with ep0OutArmed := false } }

/-- R99's two checks of a data packet, together. -/
theorem badDataPacket_iff (n : Nat) (s : State) : badDataPacket n s = true ↔ ¬PacketFits s n := by
  simp only [badDataPacket, PacketFits, mps0_eq, Bool.or_eq_true, Bool.and_eq_true, decide_eq_true_eq]
  omega

section OutEvent

variable {s : State} {d : List Byte}

theorem outPacketReceived_of_unarmed (h : s.ctx.ep0OutArmed = false) :
    outPacketReceived d s = .ok (abortStall .unexpectedEvent s) := by
  simp only [outPacketReceived, h, if_true]

/-- Outside the stages that receive, the event STALLs whether or not endpoint 0 is armed. -/
theorem outPacketReceived_of_not_receiving (hs : s.ctx.stage = .setup ∨ s.ctx.stage = .dataIn) :
    outPacketReceived d s = .ok (abortStall .unexpectedEvent s) := by
  unfold outPacketReceived
  split
  · rfl
  · rcases hs with hs | hs <;> rw [hs] <;> rfl

theorem outPacketReceived_of_status (ha : s.ctx.ep0OutArmed = true) (hs : s.ctx.stage = .status) :
    outPacketReceived [] s = .ok (statusDone s.outReported) := by
  simp only [outPacketReceived, State.outReported, ha, hs, Bool.true_eq_false, ne_eq, not_true, if_false]

theorem outPacketReceived_of_status_data (ha : s.ctx.ep0OutArmed = true) (hs : s.ctx.stage = .status) (hd : d ≠ []) :
    outPacketReceived d s = .ok (abortStall .badOutPacket s) := by
  simp only [outPacketReceived, ha, hs, Bool.true_eq_false, if_false, if_pos hd]
  rfl

theorem outPacketReceived_of_misfit (ha : s.ctx.ep0OutArmed = true) (hs : s.ctx.stage = .dataOut)
    (hd : ¬PacketFits s d.length) : outPacketReceived d s = .ok (abortStall .badOutPacket s) := by
  have hbad : badDataPacket d.length s.outReported = true := (badDataPacket_iff _ _).2 hd
  simp only [outPacketReceived, ha, hs, Bool.true_eq_false, if_false]
  exact if_pos hbad

theorem outPacketReceived_of_fits (ha : s.ctx.ep0OutArmed = true) (hs : s.ctx.stage = .dataOut)
    (hd : PacketFits s d.length) : outPacketReceived d s = takeDataPacket d s.outReported := by
  have hgood : ¬badDataPacket d.length s.outReported = true := fun h => (badDataPacket_iff _ _).1 h hd
  simp only [outPacketReceived, State.outReported, ha, hs, Bool.true_eq_false, if_false]
  exact if_neg hgood

end OutEvent

/-- The STALL of a data packet that does not fit the data stage. -/
theorem exec_evEp0Out_of_misfit {s : State} {d : List Byte} (ha : s.ctx.ep0OutArmed = true)
    (hs : s.ctx.stage = .dataOut) (hd : ¬PacketFits s d.length) : exec (.evEp0Out d) s = .next (stalledWith 11 s) :=
  operation_of_ok (outPacketReceived_of_misfit (s := s.begin) ha hs hd)

/-- The STALL of a packet nothing was armed for. -/
theorem exec_evEp0Out_of_unarmed {s : State} {d : List Byte} (ha : s.ctx.ep0OutArmed = false) :
    exec (.evEp0Out d) s = .next (stalledWith 10 s) :=
  operation_of_ok (outPacketReceived_of_unarmed (s := s.begin) ha)

/-- Settles O34: each check of R99 with its STALL. -/
theorem outPacketChecks : Obligations.OutPacketChecks := by
  refine fun s d => ⟨fun h => ?_, fun ha hs h => exec_evEp0Out_of_misfit ha hs ?_, fun ha hs hd => ?_⟩
  · rcases h with ha | hs
    · exact exec_evEp0Out_of_unarmed ha
    · exact operation_of_ok (outPacketReceived_of_not_receiving (s := s.begin) hs)
  · unfold PacketFits
    omega
  · exact operation_of_ok (outPacketReceived_of_status_data (s := s.begin) ha hs hd)

/-! ### The end of the status stage (R96) -/

/-- Settles O32: either event runs StatusDone, which resets the flag that the event itself cleared. -/
theorem statusStageEnds : Obligations.StatusStageEnds := by
  refine fun s hs => ⟨fun hb => ?_, fun ha => ?_⟩
  · exact operation_of_ok ((inPacketSent_of_status (s := s.begin) hb hs).trans
      (congrArg Except.ok (statusDone_begin s.inReported)))
  · exact operation_of_ok ((outPacketReceived_of_status (s := s.begin) ha hs).trans
      (congrArg Except.ok (statusDone_begin s.outReported)))

/-! ### Reading through a buffer pointer (R53, R55) -/

theorem toNat_word {n : Nat} (h : n < 2 ^ 32) : (BitVec.ofNat 32 n).toNat = n := by
  rw [BitVec.toNat_ofNat, Nat.mod_eq_of_lt h]

theorem word_ne_zero {n : Nat} (h0 : n ≠ 0) (h : n < 2 ^ 32) : BitVec.ofNat 32 n ≠ 0 := by
  bv_omega

theorem word_sub_ofNat {w : Word} {n : Nat} (h : n ≤ w.toNat) :
    w - BitVec.ofNat 32 n = BitVec.ofNat 32 (w.toNat - n) := by
  have := w.isLt
  bv_omega

theorem bufRead_of_readable {s : State} {p : BufPtr} {n : Nat} (hn : n < 2 ^ 32) (h : Readable s p n) :
    ∃ d, bufRead p (BitVec.ofNat 32 n) s = .ok d ∧ d.length = n ∧ BytesAt s p d := by
  have hlen : (BitVec.ofNat 32 n).toNat = n := toNat_word hn
  cases p with
  | mem a =>
    refine ⟨Memory.readBytes s.mem a n, ?_, readBytes_length .., fun k hk => readBytes_getElem? _ _ _ _ ?_⟩
    · rw [bufRead, memRead_of_admitted (h.imp_left fun h0 => by rw [h0]; rfl), hlen]
    · rwa [readBytes_length] at hk
  | reply o =>
    have hroom : o.toNat + n ≤ 2 := h
    refine ⟨([s.ctx.reply.b0, s.ctx.reply.b1].drop o.toNat).take n, ?_, ?_, fun k hk => ?_⟩
    · rw [bufRead_reply (by rwa [hlen]), hlen]
    · simp only [List.length_take, List.length_drop, List.length_cons, List.length_nil]
      omega
    · rw [List.getElem?_take_of_lt (by rw [List.length_take] at hk; omega), List.getElem?_drop]
  | null =>
    have h0 : n = 0 := h
    subst h0
    exact ⟨[], rfl, rfl, fun k hk => absurd hk (Nat.not_lt_zero k)⟩

theorem bufRead_of_unreadable {s : State} {p : BufPtr} {n : Nat} (hn : n < 2 ^ 32) (h : ¬Readable s p n) :
    bufRead p (BitVec.ofNat 32 n) s = .error (.bufferFault p (BitVec.ofNat 32 n)) := by
  cases p with
  | mem a =>
    obtain ⟨h0, hadm⟩ := not_or.1 h
    exact memRead_of_missing (word_ne_zero h0 hn) (Bool.eq_false_iff.2 hadm)
  | reply o =>
    have hout : ¬o.toNat + (BitVec.ofNat 32 n).toNat ≤ 2 := by rwa [toNat_word hn]
    exact if_neg hout
  | null => exact if_neg (word_ne_zero h hn)

/-! ### SendNext (R93) -/

theorem minWord_mps0 (s : State) :
    minWord s.ctx.remaining s.cfg.mps0.word = BitVec.ofNat 32 (min s.ctx.remaining.toNat (mps0 s)) := by
  rw [mps0_eq, ← minWord_toNat, BitVec.ofNat_toNat, BitVec.setWidth_eq]

/-- The packet `d` has been handed to the PHY, and PTR and REMAINING have moved past it. -/
def packetSentNext (d : List Byte) (s : State) : State :=
  { s with ctx := { s.ctx with
      ptr := s.ctx.ptr.advance (BitVec.ofNat 32 d.length)
      remaining := BitVec.ofNat 32 (s.ctx.remaining.toNat - d.length)
      ep0InBusy := true } }.emit (.ep0Write d)

theorem sendNext_of_readable {s : State} (h : Readable s s.ctx.ptr (min s.ctx.remaining.toNat (mps0 s))) :
    ∃ d, d.length = min s.ctx.remaining.toNat (mps0 s) ∧ BytesAt s s.ctx.ptr d ∧
      sendNext s = .ok (packetSentNext d s) := by
  have hrem := s.ctx.remaining.isLt
  obtain ⟨d, hread, hlen, hbytes⟩ := bufRead_of_readable (by omega) h
  rw [← minWord_mps0] at hread
  refine ⟨d, hlen, hbytes, ?_⟩
  rw [sendNext_of_read hread, minWord_mps0, ← hlen, word_sub_ofNat (by omega)]
  rfl

theorem sendNext_of_unreadable {s : State} (h : ¬Readable s s.ctx.ptr (min s.ctx.remaining.toNat (mps0 s))) :
    sendNext s = .error (.bufferFault s.ctx.ptr (BitVec.ofNat 32 (min s.ctx.remaining.toNat (mps0 s)))) := by
  have hrem := s.ctx.remaining.isLt
  have hread := bufRead_of_unreadable (by omega) h
  rw [← minWord_mps0] at hread ⊢
  simp only [sendNext, hread]

/-- Settles O30: SendNext where bytes remain, by what its read answers, and else the zero-length packet. -/
theorem inEventSendsNextPacket : Obligations.InEventSendsNextPacket := by
  refine fun s hb hs => ⟨fun hr h => ?_, fun hr h => ?_, fun hr hz => ?_⟩
  · exact operation_of_error ((inPacketSent_of_remaining (s := s.begin) hb hs hr).trans
      (sendNext_of_unreadable (s := s.begin.inReported) h))
  · obtain ⟨d, hlen, hbytes, e⟩ := sendNext_of_readable (s := s.begin.inReported) h
    exact ⟨d, hlen, hbytes, operation_of_ok ((inPacketSent_of_remaining (s := s.begin) hb hs hr).trans e)⟩
  · refine (operation_of_ok (inPacketSent_of_zlp (s := s.begin) hb hs hr hz)).trans ?_
    rw [← hb]
    rfl

/-! ### A data packet that is stored (R99) -/

/-- The packet `d` lies in memory at `a`, and PTR and REMAINING have moved past it. -/
def packetStored (a : Word) (d : List Byte) (s : State) : State :=
  { s with
    mem := Memory.writeBytes s.mem a d
    ctx := { s.ctx with
      ptr := .mem (a + BitVec.ofNat 32 d.length)
      remaining := BitVec.ofNat 32 (s.ctx.remaining.toNat - d.length) } }

/-- Endpoint 0 is armed for one more data packet. -/
def State.rearmed (s : State) : State :=
  { s with ctx := { s.ctx with ep0OutArmed := true } }.emit (.ep0Read (BitVec.ofNat 16 (mps0 s)))

section OutPacket

variable {s : State} {d : List Byte} {a : Word}

theorem takeDataPacket_of_more (hp : s.ctx.ptr = .mem a)
    (h : d = [] ∨ s.admits a (BitVec.ofNat 32 d.length) = true) (hmore : d.length < s.ctx.remaining.toNat) :
    takeDataPacket d s = .ok (packetStored a d s).rearmed := by
  have hrem := s.ctx.remaining.isLt
  have hleft : BitVec.ofNat 32 (s.ctx.remaining.toNat - d.length) ≠ 0 := word_ne_zero (by omega) (by omega)
  simp only [takeDataPacket, hp, bufWrite, memWrite_of_admitted h, BufPtr.advance, word_sub_ofNat (Nat.le_of_lt hmore),
    if_neg hleft, mps0_half, ← mps0_eq]
  rfl

theorem takeDataPacket_of_last (hp : s.ctx.ptr = .mem a)
    (h : d = [] ∨ s.admits a (BitVec.ofNat 32 d.length) = true) (hlast : d.length = s.ctx.remaining.toNat) :
    takeDataPacket d s = .ok (dataStageDone (packetStored a d s)) := by
  have hleft : BitVec.ofNat 32 (s.ctx.remaining.toNat - d.length) = 0 := by rw [hlast, Nat.sub_self]; rfl
  simp only [takeDataPacket, hp, bufWrite, memWrite_of_admitted h, BufPtr.advance, word_sub_ofNat (Nat.le_of_eq hlast),
    if_pos hleft]
  rfl

theorem takeDataPacket_of_missing (hp : s.ctx.ptr = .mem a) (h0 : d ≠ [])
    (h : s.admits a (BitVec.ofNat 32 d.length) = false) :
    takeDataPacket d s = .error (.bufferFault (.mem a) (BitVec.ofNat 32 d.length)) := by
  simp only [takeDataPacket, hp, bufWrite, memWrite_of_missing h0 h]

end OutPacket

section DataPacket

variable {s : State} {d : List Byte} {a : Word} (ha : s.ctx.ep0OutArmed = true) (hs : s.ctx.stage = .dataOut)
  (hp : s.ctx.ptr = .mem a) (hfit : PacketFits s d.length)

include ha hs hp hfit

/-- A data packet after which bytes are still expected: endpoint 0 is armed again. -/
theorem exec_evEp0Out_of_more (h : d = [] ∨ s.admits a (BitVec.ofNat 32 d.length) = true)
    (hmore : d.length < s.ctx.remaining.toNat) :
    exec (.evEp0Out d) s = .next (emitting [.ep0Read (BitVec.ofNat 16 (mps0 s))] (packetStored a d s)) := by
  have hnext : exec (.evEp0Out d) s = .next (packetStored a d s.begin.outReported).rearmed :=
    operation_of_ok ((outPacketReceived_of_fits (s := s.begin) ha hs hfit).trans
      (takeDataPacket_of_more (s := s.begin.outReported) hp h hmore))
  rw [hnext, State.rearmed, ← ha]
  rfl

/-- The last data packet. -/
theorem exec_evEp0Out_of_last (h : d = [] ∨ s.admits a (BitVec.ofNat 32 d.length) = true)
    (hlast : d.length = s.ctx.remaining.toNat) :
    exec (.evEp0Out d) s = .next (stageEnded (packetStored a d s).outReported) := by
  have hdone := dataStageDone_begin (packetStored a d s).outReported
  exact operation_of_ok ((outPacketReceived_of_fits (s := s.begin) ha hs hfit).trans
    ((takeDataPacket_of_last (s := s.begin.outReported) hp h hlast).trans (congrArg Except.ok hdone)))

theorem exec_evEp0Out_of_missing (h0 : d ≠ []) (h : s.admits a (BitVec.ofNat 32 d.length) = false) :
    exec (.evEp0Out d) s = .fault (.bufferFault (.evEp0Out d) (.mem a) (BitVec.ofNat 32 d.length)) :=
  operation_of_error ((outPacketReceived_of_fits (s := s.begin) ha hs hfit).trans
    (takeDataPacket_of_missing (s := s.begin.outReported) hp h0 h))

end DataPacket

theorem stageEnded_mem (s : State) : (stageEnded s).mem = s.mem := by
  rw [← dataStageDone_begin, dataStageDone_mem]
  rfl

/-- Settles O33: the packet is stored, and whether bytes are still expected decides what follows. -/
theorem outPacketIsStored : Obligations.OutPacketIsStored := by
  intro s d a hwf ha hs hp hmps hrem hlen
  have hfit : PacketFits s d.length := ⟨hmps, hrem, hlen⟩
  have hd : d.length ≤ 2 ^ 32 := by have := s.ctx.remaining.isLt; omega
  refine ⟨fun h => ?_, exec_evEp0Out_of_missing ha hs hp hfit⟩
  rcases Nat.lt_or_eq_of_le hrem with hmore | hlast
  · exact ⟨_, exec_evEp0Out_of_more ha hs hp hfit h hmore, stored_of_writeBytes hwf hd rfl, fun _ => rfl,
      fun hlast => absurd hlast (Nat.ne_of_lt hmore)⟩
  · have hmem := stageEnded_mem (packetStored a d s).outReported
    refine ⟨_, exec_evEp0Out_of_last ha hs hp hfit h hlast, stored_of_writeBytes hwf hd hmem,
      fun hmore => absurd hlast (Nat.ne_of_lt hmore), fun _ => ?_⟩
    rw [hmem]
    simp only [packetStored, ← hlast, Nat.sub_self]
    rfl

/-! ### The packet sizes of a data stage (R100, R101) -/

/-- The sizes of the packets that carry the last `r` bytes of a data stage. -/
def dataSizes (r m : Nat) : List Nat :=
  if r = 0 then [] else outSizes r m

theorem dataSizes_zero (m : Nat) : dataSizes 0 m = [] := rfl

theorem dataSizes_of_pos {r : Nat} (hr : 0 < r) (m : Nat) : dataSizes r m = outSizes r m := if_neg (Nat.ne_of_gt hr)

theorem outSizes_of_le {r m : Nat} (hr : 0 < r) (h : r ≤ m) : outSizes r m = [r] := by
  have hcount : (r + m - 1) / m = 1 := Nat.div_eq_of_lt_le (by omega) (by omega)
  simp only [outSizes, hcount, Nat.sub_self, List.replicate_zero, List.nil_append, Nat.zero_mul, Nat.sub_zero]

theorem outSizes_of_lt {r m : Nat} (hm : 0 < m) (h : m < r) : outSizes r m = m :: outSizes (r - m) m := by
  have hcount : (r + m - 1) / m = (r - m + m - 1) / m + 1 := by
    rw [← Nat.add_div_right _ hm]
    congr 1
    omega
  obtain ⟨k, hk⟩ : ∃ k, (r - m + m - 1) / m = k + 1 :=
    Nat.exists_eq_add_one.2 (Nat.div_pos (by omega) hm)
  have hlast : r - (k + 1) * m = r - m - k * m := by
    rw [Nat.succ_mul]
    omega
  simp only [outSizes, hcount, hk, Nat.add_sub_cancel, List.replicate_succ, List.cons_append, hlast]

/-- The first packet of what is left carries as much as fits, and the others carry the rest. -/
theorem outSizes_eq_cons {r m : Nat} (hr : 0 < r) (hm : 0 < m) :
    outSizes r m = min r m :: dataSizes (r - min r m) m := by
  rcases Nat.lt_or_ge m r with h | h
  · rw [outSizes_of_lt hm h, Nat.min_eq_right (Nat.le_of_lt h), dataSizes_of_pos (by omega)]
  · rw [outSizes_of_le hr h, Nat.min_eq_left h, Nat.sub_self, dataSizes_zero]

theorem inSizes_eq_cons {total m wl : Nat} (hm : 0 < m) :
    inSizes total m wl = min total m ::
      (dataSizes (total - min total m) m ++ if 0 < total ∧ total % m = 0 ∧ total < wl then [0] else []) := by
  rcases Nat.eq_zero_or_pos total with rfl | h
  · simp only [inSizes, dataSizes_zero, Nat.zero_min, Nat.sub_self, Nat.lt_irrefl, false_and, if_true, if_false,
      List.nil_append]
  · have hsizes := outSizes_eq_cons h hm
    simp only [outSizes] at hsizes
    simp only [inSizes, if_neg (Nat.ne_of_gt h), h, true_and, hsizes, List.cons_append]

theorem zero_lt_mps0 (s : State) : 0 < mps0 s := by
  have := mps0_pos s.cfg.mps0
  rw [mps0_eq]
  omega

/-! ### The bytes of a data stage (R48) -/

theorem rangeAdmitted_take {s : State} {a : Word} {n k : Nat} (h : RangeAdmitted s a n) (hk : k ≤ n) :
    k = 0 ∨ s.admits a (BitVec.ofNat 32 k) = true := by
  have hstart := h 0 k (by omega)
  rwa [show a + BitVec.ofNat 32 0 = a from BitVec.add_zero a] at hstart

theorem rangeAdmitted_drop {s : State} {a : Word} {n k : Nat} (h : RangeAdmitted s a n) (hk : k ≤ n) :
    RangeAdmitted s (a + BitVec.ofNat 32 k) (n - k) := by
  intro o m hom
  rw [BitVec.add_assoc, ← BitVec.ofNat_add]
  exact h (k + o) m (by omega)

/-! ### An IN data stage, packet by packet (R100) -/

/-- An IN data stage with a packet outstanding and `r` bytes still to send. -/
structure InStageLeft (s : State) (r : Nat) : Prop where
  busy      : s.ctx.ep0InBusy = true
  stage     : s.ctx.stage = .dataIn
  direction : s.ctx.direction = .send
  remaining : s.ctx.remaining.toNat = r
  bytes     : r = 0 ∨ ∃ a, s.ctx.ptr = .mem a ∧ RangeAdmitted s a r

/-- In `t` the data stage of `s` is done: the class is told, or endpoint 0 is armed for the status stage (R95). -/
def DoneAfter (s t : State) : Prop :=
  (s.ctx.notify = true → t.out = [.cbRequestXferDone s.ctx.setup] ∧ t.ctx.awaiting = .xferDone) ∧
  (s.ctx.notify = false → t.out = [.ep0Read 0] ∧ t.ctx.stage = .status ∧ t.ctx.ep0OutArmed = true)

/-- From `s`, EV_EP0_IN upon EV_EP0_IN sends packets of these sizes, and the one after them ends the data stage. -/
def SendsSizes (s : State) (sizes : List Nat) : Prop :=
  ∃ (packets : List (List Byte)) (t : State), packets.map List.length = sizes ∧
    inEvents (packets.length + 1) s = some (packets.map (fun p => [.ep0Write p]) ++ [t.out], t) ∧ DoneAfter s t

theorem inEvents_succ {s t : State} (n : Nat) (h : exec .evEp0In s = .next t) :
    inEvents (n + 1) s = (inEvents n t).map fun r => (t.out :: r.1, r.2) := by
  simp only [inEvents, h]

theorem doneAfter_stageEnded {s : State} (h : s.ctx.direction = .send) : DoneAfter s (stageEnded s) := by
  unfold stageEnded
  refine ⟨fun hn => ?_, fun hn => ?_⟩
  · rw [if_pos hn]
    exact ⟨rfl, rfl⟩
  · rw [if_neg (Bool.eq_false_iff.1 hn), if_pos h]
    exact ⟨rfl, rfl, rfl⟩

theorem sendsSizes_cons {s t : State} {d : List Byte} {sizes : List Nat} (h : exec .evEp0In s = .next t)
    (hout : t.out = [.ep0Write d]) (hnotify : t.ctx.notify = s.ctx.notify) (hsetup : t.ctx.setup = s.ctx.setup)
    (ht : SendsSizes t sizes) : SendsSizes s (d.length :: sizes) := by
  obtain ⟨packets, u, rfl, hevents, hdone⟩ := ht
  refine ⟨d :: packets, u, rfl, ?_, ?_⟩
  · rw [List.length_cons, inEvents_succ _ h, hevents, hout]
    rfl
  · unfold DoneAfter at hdone
    rwa [hnotify, hsetup] at hdone

section InStage

variable {s : State}

theorem sendsSizes_nil (h : InStageLeft s 0) (hz : s.ctx.zlp = false) : SendsSizes s [] := by
  have hr : s.ctx.remaining = 0 := BitVec.eq_of_toNat_eq h.remaining
  have hnext := (inEventEndsStage s).2 h.busy h.stage hr hz
  exact ⟨[], _, rfl, inEvents_succ 0 hnext, doneAfter_stageEnded (s := s.inReported) h.direction⟩

theorem sendsSizes_zlp (h : InStageLeft s 0) : SendsSizes s (if s.ctx.zlp then [0] else []) := by
  cases hz : s.ctx.zlp with
  | false => exact sendsSizes_nil h hz
  | true =>
    have hr : s.ctx.remaining = 0 := BitVec.eq_of_toNat_eq h.remaining
    refine sendsSizes_cons ((inEventSendsNextPacket s h.busy h.stage).2.2 hr hz) rfl rfl rfl (sendsSizes_nil ?_ rfl)
    exact ⟨h.busy, h.stage, h.direction, h.remaining, .inl rfl⟩

/-- What is left of an IN data stage is sent in packets of the sizes R100 gives, the zero-length packet last. -/
theorem sendsSizes_of_inStageLeft {r : Nat} (h : InStageLeft s r) :
    SendsSizes s (dataSizes r (mps0 s) ++ if s.ctx.zlp then [0] else []) := by
  induction r using Nat.strongRecOn generalizing s with
  | ind r ih =>
    rcases Nat.eq_zero_or_pos r with rfl | hr
    · exact sendsSizes_zlp h
    have hm := zero_lt_mps0 s
    have hlt := s.ctx.remaining.isLt
    obtain ⟨hbusy, hstage, hdir, rfl, hbytes⟩ := h
    obtain ⟨a, hp, hrange⟩ := hbytes.resolve_left (Nat.ne_of_gt hr)
    have hread : Readable s s.ctx.ptr (min s.ctx.remaining.toNat (mps0 s)) := by
      rw [hp]
      exact rangeAdmitted_take hrange (Nat.min_le_left _ _)
    obtain ⟨d, hlen, -, hnext⟩ := (inEventSendsNextPacket s hbusy hstage).2.1 hr hread
    rw [dataSizes_of_pos hr, outSizes_eq_cons hr hm, ← hlen]
    refine sendsSizes_cons hnext rfl rfl rfl (ih (s.ctx.remaining.toNat - d.length) (by omega) ?_)
    refine ⟨rfl, hstage, hdir, toNat_word (by omega), .inr ⟨a + BitVec.ofNat 32 d.length, ?_, ?_⟩⟩
    · exact congrArg (BufPtr.advance · _) hp
    · exact rangeAdmitted_drop hrange (by omega)

end InStage

/-- Settles O35: behind the packet already sent, what is left of the data stage. -/
theorem inDataStagePackets : Obligations.InDataStagePackets := by
  intro s total d htotal hstage hbusy hdir _ hd hrem hzlp hbytes
  have hwl := s.ctx.setup.wLength.isLt
  have hleft : InStageLeft s (total - min total (mps0 s)) := by
    refine ⟨hbusy, hstage, hdir, by rw [hrem, toNat_word (by omega)], ?_⟩
    rcases Nat.lt_or_ge (mps0 s) total with h | h
    · obtain ⟨a, hp, hrange⟩ := hbytes.resolve_left (by omega)
      rw [Nat.min_eq_right (Nat.le_of_lt h)]
      exact .inr ⟨_, hp, rangeAdmitted_drop hrange (Nat.le_of_lt h)⟩
    · exact .inl (by omega)
  obtain ⟨packets, t, hsizes, hevents, hnotify, hquiet⟩ := sendsSizes_of_inStageLeft hleft
  refine ⟨d :: packets, t, ?_, hevents, rfl, hnotify, hquiet⟩
  rw [inSizes_eq_cons (zero_lt_mps0 s), List.map_cons, hsizes, hd]
  simp only [hzlp]

/-! ### An OUT data stage, packet by packet (R101) -/

/-- An OUT data stage with endpoint 0 armed and `r` bytes still expected. -/
structure OutStageLeft (s : State) (r : Nat) : Prop where
  armed     : s.ctx.ep0OutArmed = true
  stage     : s.ctx.stage = .dataOut
  direction : s.ctx.direction = .receive
  remaining : s.ctx.remaining.toNat = r
  pos       : 0 < r
  bytes     : ∃ a, s.ctx.ptr = .mem a ∧ RangeAdmitted s a r

theorem outEvents_cons_of_next {s t : State} {d : List Byte} (ds : List (List Byte))
    (h : exec (.evEp0Out d) s = .next t) (hout : .ep0Stall ∉ t.out) : outEvents (d :: ds) s = outEvents ds t := by
  simp only [outEvents, h, if_neg hout]

theorem outEvents_cons_of_stall {s : State} {d : List Byte} {c : Byte} (ds : List (List Byte))
    (h : exec (.evEp0Out d) s = .next (stalledWith c s)) : outEvents (d :: ds) s = none := by
  have hout : .ep0Stall ∈ (stalledWith c s).out := List.mem_singleton_self _
  simp only [outEvents, h, if_pos hout]

/-- A packet is accepted exactly where it carries as much as fits (R99). -/
theorem packetFits_iff_eq_min {s : State} {n : Nat} :
    PacketFits s n ↔ n = min s.ctx.remaining.toNat (mps0 s) := by
  unfold PacketFits
  omega

theorem notMem_singleton {o o' : Output} (h : o ≠ o') : o ∉ [o'] := fun hmem => h (List.mem_singleton.1 hmem)

/-- The end of an OUT data stage is no STALL, and arms endpoint 0 for nothing more. -/
theorem stageEnded_of_receive {s : State} (h : s.ctx.direction = .receive) :
    .ep0Stall ∉ (stageEnded s).out ∧ (stageEnded s).ctx.ep0OutArmed = s.ctx.ep0OutArmed ∧
      (stageEnded s).ctx.remaining = s.ctx.remaining := by
  unfold stageEnded
  split
  · exact ⟨notMem_singleton nofun, rfl, rfl⟩
  · rw [if_neg (by rw [h]; exact Dir.noConfusion)]
    exact ⟨notMem_singleton nofun, rfl, rfl⟩

/-- Where nothing is armed, no packet at all is accepted. -/
theorem outEvents_of_unarmed {s t : State} {ds : List (List Byte)} (h : s.ctx.ep0OutArmed = false) :
    outEvents ds s = some t ↔ ds = [] ∧ s = t := by
  cases ds with
  | nil => simp only [outEvents, Option.some.injEq, true_and]
  | cons d ds => simp only [outEvents_cons_of_stall ds (exec_evEp0Out_of_unarmed h), reduceCtorEq, false_and]

section OutStage

variable {s : State} {r : Nat} {d : List Byte}

/-- What R99 asks of a packet, met where the packet carries as much as fits. -/
theorem fits_and_admitted_of_outStageLeft (h : OutStageLeft s r) (hlen : d.length = min r (mps0 s)) :
    PacketFits s d.length ∧ ∃ a, s.ctx.ptr = .mem a ∧ RangeAdmitted s a r ∧
      (d = [] ∨ s.admits a (BitVec.ofNat 32 d.length) = true) := by
  obtain ⟨a, hp, hrange⟩ := h.bytes
  have hadm := rangeAdmitted_take hrange (hlen ▸ Nat.min_le_left _ _)
  refine ⟨packetFits_iff_eq_min.2 (by rw [h.remaining, hlen]), a, hp, hrange, ?_⟩
  exact hadm.imp_left List.eq_nil_of_length_eq_zero

theorem outEvents_cons_of_more (h : OutStageLeft s r) (hlen : d.length = min r (mps0 s)) (hmore : d.length < r) :
    ∃ t, (∀ ds, outEvents (d :: ds) s = outEvents ds t) ∧ mps0 t = mps0 s ∧ OutStageLeft t (r - d.length) := by
  obtain ⟨hfit, a, hp, hrange, hadm⟩ := fits_and_admitted_of_outStageLeft h hlen
  obtain ⟨harmed, hstage, hdir, rfl, -, -⟩ := h
  have hnext := exec_evEp0Out_of_more harmed hstage hp hfit hadm hmore
  have hlt := s.ctx.remaining.isLt
  refine ⟨_, fun ds => outEvents_cons_of_next ds hnext (notMem_singleton nofun), rfl, ?_⟩
  exact ⟨harmed, hstage, hdir, toNat_word (by omega), by omega, _, rfl, rangeAdmitted_drop hrange (Nat.le_of_lt hmore)⟩

theorem outEvents_cons_of_last (h : OutStageLeft s r) (hlen : d.length = min r (mps0 s)) (hlast : d.length = r) :
    ∃ t, (∀ ds, outEvents (d :: ds) s = outEvents ds t) ∧ t.ctx.ep0OutArmed = false ∧ t.ctx.remaining = 0 := by
  obtain ⟨hfit, a, hp, -, hadm⟩ := fits_and_admitted_of_outStageLeft h hlen
  obtain ⟨harmed, hstage, hdir, rfl, -, -⟩ := h
  have hnext := exec_evEp0Out_of_last harmed hstage hp hfit hadm hlast
  obtain ⟨hquiet, hunarmed, hrem⟩ := stageEnded_of_receive (s := (packetStored a d s).outReported) hdir
  have hzero : BitVec.ofNat 32 (s.ctx.remaining.toNat - d.length) = 0 := by rw [hlast, Nat.sub_self]; rfl
  exact ⟨_, fun ds => outEvents_cons_of_next ds hnext hquiet, hunarmed, hrem.trans hzero⟩

theorem outEvents_cons_of_misfit (h : OutStageLeft s r) (hlen : d.length ≠ min r (mps0 s)) (ds : List (List Byte)) :
    outEvents (d :: ds) s = none := by
  refine outEvents_cons_of_stall ds (exec_evEp0Out_of_misfit h.armed h.stage fun hfit => hlen ?_)
  rw [packetFits_iff_eq_min.1 hfit, h.remaining]

end OutStage

/-- What is left of an OUT data stage is completed by packets of the sizes R101 gives and by no others. -/
theorem completes_iff_of_outStageLeft {s : State} {r : Nat} {ds : List (List Byte)} (h : OutStageLeft s r) :
    (∃ t, outEvents ds s = some t ∧ t.ctx.remaining = 0) ↔ ds.map List.length = outSizes r (mps0 s) := by
  induction ds generalizing s r with
  | nil =>
    have hne : s.ctx.remaining ≠ 0 := fun e => Nat.ne_of_gt h.pos (h.remaining.symm.trans (congrArg BitVec.toNat e))
    rw [outSizes_eq_cons h.pos (zero_lt_mps0 s)]
    exact ⟨fun ⟨_, hrun, hzero⟩ => absurd (Option.some.inj hrun ▸ hzero) hne, nofun⟩
  | cons d ds ih =>
    rw [outSizes_eq_cons h.pos (zero_lt_mps0 s), List.map_cons, List.cons.injEq]
    by_cases hlen : d.length = min r (mps0 s)
    case neg => simp only [outEvents_cons_of_misfit h hlen, hlen, reduceCtorEq, false_and, exists_false]
    rw [← hlen, eq_self, true_and]
    rcases Nat.lt_or_eq_of_le (hlen ▸ Nat.min_le_left r (mps0 s)) with hmore | hlast
    · obtain ⟨t, hevents, hmps, hleft⟩ := outEvents_cons_of_more h hlen hmore
      rw [hevents, ih hleft, hmps, dataSizes_of_pos hleft.pos]
    · obtain ⟨t, hevents, hunarmed, hzero⟩ := outEvents_cons_of_last h hlen hlast
      rw [hevents, hlast, Nat.sub_self, dataSizes_zero, List.map_eq_nil_iff]
      simp only [outEvents_of_unarmed hunarmed]
      exact ⟨fun ⟨_, ⟨hnil, _⟩, _⟩ => hnil, fun hnil => ⟨t, ⟨hnil, rfl⟩, hzero⟩⟩

/-- Settles O36: the whole stage is what is left before its first packet. -/
theorem outDataStagePackets : Obligations.OutDataStagePackets := by
  intro s w a ds hpos hw hstage hdir harmed hrem hp hrange
  have hleft : s.ctx.remaining.toNat = w := by rw [hrem, toNat_word (by omega)]
  exact completes_iff_of_outStageLeft ⟨harmed, hstage, hdir, hleft, hpos, a, hp, hrange⟩

end Sys2Proof.Machine
end

section
/-! The statements of spec/41_ep0_completion.md: what each answer of the class does, and what ABORT does (R102 to R105). -/

namespace Sys2Proof.Machine

open Sys2Proof.Claims

/-! ### From a body to a step -/

theorem plainOperation_of_eq {body : State → State} {s t : State} (h : body s.begin = t) :
    plainOperation body s = .next t :=
  congrArg Host.Outcome.next h

/-- Two operations whose bodies answer the same take the same step. -/
theorem sameStep_of_body_eq {i j : Instr} {body body' : State → Except Breach State} {s s' : State}
    (h : body s.begin = body' s'.begin) : SameStep i j (operation i body s) (operation j body' s') := by
  cases hb : body' s'.begin with
  | ok t => exact .inl ⟨t, operation_of_ok (h.trans hb), operation_of_ok hb⟩
  | error b => exact .inr ⟨b, operation_of_error (h.trans hb), operation_of_error hb⟩

/-! ### The bodies, case by case -/

/-- The class left the request to the dispatcher: its answer is no longer awaited, nor is the request held for it. -/
def State.passedOn (s : State) : State :=
  { s with ctx := { s.ctx with awaiting := .none, deferred := false } }

section Answers

variable {s : State} {a x : Word}

theorem requestAnswered_of_stale {result : RequestResult} (h : s.ctx.awaiting ≠ .request) :
    requestAnswered result a x s = .ok s :=
  if_pos h

section Awaited

variable (h : s.ctx.awaiting = .request)

include h

theorem requestAnswered_passThrough : requestAnswered .passThrough a x s = stdDispatch s.passedOn :=
  if_neg (not_not_intro h)

theorem requestAnswered_failure : requestAnswered .failure a x s = .ok (abortStall .classFailure s.answered) :=
  if_neg (not_not_intro h)

theorem requestAnswered_receive : requestAnswered .receive a x s =
    .ok (respondReceive s.ctx.setup.dirIn s.ctx.setup.wLength (.mem a) x true s.answered) :=
  if_neg (not_not_intro h)

theorem requestAnswered_send : requestAnswered .send a x s =
    respondSend s.ctx.setup.dirIn s.ctx.setup.wLength (.mem a) x true s.answered :=
  if_neg (not_not_intro h)

theorem requestAnswered_success : requestAnswered .success a x s =
    .ok (respondSuccess s.ctx.setup.wLength true s.answered) :=
  if_neg (not_not_intro h)

end Awaited

theorem transferAnswered_of_stale {b : Bool} (h : s.ctx.awaiting ≠ .xferDone) : transferAnswered b s = s :=
  if_pos h

theorem transferAnswered_false (h : s.ctx.awaiting = .xferDone) :
    transferAnswered false s = abortStall .xferFailed s.answered :=
  if_neg (not_not_intro h)

theorem transferAnswered_true (h : s.ctx.awaiting = .xferDone) : transferAnswered true s = statusStart s.answered :=
  if_neg (not_not_intro h)

theorem configurationSet_of_stale {b : Bool} (h : s.ctx.awaiting ≠ .setConfiguration) : configurationSet b s = s :=
  if_pos h

theorem interfaceSet_of_stale {b : Bool} (h : s.ctx.awaiting ≠ .setInterface) : interfaceSet b s = s :=
  if_pos h

end Answers

/-! ### PassThrough runs the dispatcher (R103, R107) -/

/-- Settles O8: both steps run the request's handler, on the state in which the class's answer was taken. -/
theorem passThroughRunsRequest : Obligations.PassThroughRunsRequest := by
  intro s a x h
  have hpass := requestAnswered_passThrough (s := s.begin) (a := a) (x := x) h
  refine ⟨fun i hi => ?_, fun hnone => ?_⟩
  · rw [exec_request i _ (decodeRequest_args hi).1]
    exact sameStep_of_body_eq (hpass.trans (stdDispatch_of_request (s := s.passedOn.begin) hi))
  · exact operation_of_ok (hpass.trans (stdDispatch_of_none (s := s.passedOn.begin) hnone))

/-! ### Send begins an IN data stage (R91, R92, R93) -/

/-- wLength as a word is the same number. -/
theorem toNat_setWidth_half (wl : Half) : (wl.setWidth 32).toNat = wl.toNat :=
  BitVec.toNat_setWidth_of_le (by decide)

theorem toNat_minWord_half (size : Word) (wl : Half) :
    (minWord size (wl.setWidth 32)).toNat = min size.toNat wl.toNat := by
  rw [minWord_toNat, toNat_setWidth_half]

/-- R92's condition, on the numbers themselves. -/
theorem zlpNeeded_minWord (size : Word) (wl : Half) (s : State) :
    zlpNeeded (minWord size (wl.setWidth 32)) (wl.setWidth 32) s.cfg.mps0.word =
      decide (0 < min size.toNat wl.toNat ∧ min size.toNat wl.toNat % mps0 s = 0 ∧
        min size.toNat wl.toNat < wl.toNat) := by
  rw [Bool.eq_iff_iff, zlpNeeded_iff, decide_eq_true_iff, toNat_minWord_half, toNat_setWidth_half, mps0_eq]

section Send

variable {s : State} {wl : Half} {p : BufPtr} {size : Word} {notify dirIn : Bool}

theorem respondSend_of_misfit (h : dirIn = false ∨ wl = 0) :
    respondSend dirIn wl p size notify s = .ok (abortStall .resultMismatch s) :=
  if_pos h.symm

theorem respondSend_of_fits (hdir : dirIn = true) (hwl : wl ≠ 0) :
    respondSend dirIn wl p size notify s = sendNext (sendReady wl p size notify s) :=
  if_neg (not_or_intro hwl (ne_false_of_eq_true hdir))

theorem packetSentNext_sendReady {d : List Byte} (hd : d.length = min (min size.toNat wl.toNat) (mps0 s)) :
    packetSentNext d (sendReady wl p size notify s.begin) =
      dataInBegun p (min size.toNat wl.toNat) wl d { s with ctx := { s.ctx with notify := notify } } := by
  simp only [packetSentNext, sendReady, dataInBegun, begin_cfg, toNat_minWord_half, zlpNeeded_minWord, hd]
  rfl

/-- A body that answers with Respond Send, where the request has an IN data stage, begins that stage. -/
theorem sendsFirstPacket_of_sendReady {i : Instr} {body : State → Except Breach State} {s₀ : State}
    (hexec : exec i s₀ = operation i body s₀)
    (hbody : body s₀.begin = sendNext (sendReady wl p size notify s.begin)) :
    SendsFirstPacket i s₀ { s with ctx := { s.ctx with notify := notify } } p (min size.toNat wl.toNat) wl := by
  have htotal : (sendReady wl p size notify s.begin).ctx.remaining.toNat = min size.toNat wl.toNat :=
    toNat_minWord_half size wl
  refine ⟨fun hread => ?_, fun hmissing => ?_⟩
  · obtain ⟨d, hlen, hbytes, hsend⟩ := sendNext_of_readable (s := sendReady wl p size notify s.begin)
      (by rw [htotal]; exact hread)
    rw [htotal] at hlen
    refine ⟨d, hlen, hbytes, hexec.trans (operation_of_ok (hbody.trans ?_))⟩
    rw [hsend, packetSentNext_sendReady (s := s) hlen]
  · have hsend := sendNext_of_unreadable (s := sendReady wl p size notify s.begin)
      (by rw [htotal]; exact hmissing)
    rw [htotal] at hsend
    exact hexec.trans (operation_of_error (hbody.trans hsend))

end Send

/-- Settles O38: Respond Send, on the setup packet's direction and length. -/
theorem sendAnswer : Obligations.SendAnswer := by
  intro s a x h
  have hbody := requestAnswered_send (s := s.begin) (a := a) (x := x) h
  refine ⟨fun hdir hwl => ?_, fun hmisfit => operation_of_ok (hbody.trans (respondSend_of_misfit hmisfit))⟩
  exact sendsFirstPacket_of_sendReady (s := s.answered) rfl (hbody.trans (respondSend_of_fits hdir hwl))

/-! ### Receive, Success and Failure (R91) -/

section Receive

variable {s : State} {dirIn notify : Bool} {wl : Half} {p : BufPtr} {size : Word}

theorem respondReceive_of_misfit (h : dirIn = true ∨ wl = 0 ∨ size.toNat < wl.toNat) :
    respondReceive dirIn wl p size notify s = abortStall .resultMismatch s := by
  rcases respondReceive_cases dirIn wl p size notify s with e | ⟨hwl, hdir, hroom, -⟩
  · exact e
  · rcases h with h | h | h
    · rw [h] at hdir; cases hdir
    · exact absurd h hwl
    · omega

theorem respondReceive_of_fits (hdir : dirIn = false) (hwl : wl ≠ 0) (hroom : wl.toNat ≤ size.toNat) :
    respondReceive dirIn wl p size notify s =
      { s with ctx := { s.ctx with
          ptr := p
          remaining := wl.setWidth 32
          direction := .receive
          notify := notify
          stage := .dataOut
          ep0OutArmed := true } }.emit (.ep0Read (BitVec.ofNat 16 (mps0 s))) := by
  have hmisfit : ¬(wl = 0 ∨ dirIn = true) := not_or_intro hwl (Bool.eq_false_iff.1 hdir)
  have hsmall : ¬size < wl.setWidth 32 := by
    rw [BitVec.lt_def, toNat_setWidth_half]
    exact Nat.not_lt.2 hroom
  rw [respondReceive, if_neg hmisfit, if_neg hsmall, mps0_half, mps0_eq]

end Receive

/-- Settles O39: Respond Receive and Respond Success by what they ask of the setup packet, and the STALL of Failure. -/
theorem otherAnswers : Obligations.OtherAnswers := by
  intro s a x h
  have hreceive := requestAnswered_receive (s := s.begin) (a := a) (x := x) h
  have hsuccess := requestAnswered_success (s := s.begin) (a := a) (x := x) h
  refine ⟨fun hdir hwl hroom => ?_, fun hmisfit => ?_, fun hwl => ?_, fun hwl => ?_, ?_⟩
  · exact operation_of_ok (hreceive.trans (congrArg Except.ok (respondReceive_of_fits hdir hwl hroom)))
  · exact operation_of_ok (hreceive.trans (congrArg Except.ok (respondReceive_of_misfit hmisfit)))
  · exact operation_of_ok (hsuccess.trans (congrArg Except.ok (if_neg (not_not_intro hwl))))
  · exact operation_of_ok (hsuccess.trans (congrArg Except.ok (if_pos hwl)))
  · exact operation_of_ok (requestAnswered_failure (s := s.begin) h)

/-! ### Answers that are not awaited (R102), and the end of a data stage (R104) -/

/-- Settles O37: each completion's body leaves the state as it is. -/
theorem staleCompletionsAreIgnored : Obligations.StaleCompletionsAreIgnored := by
  refine fun s r a x b => ⟨fun h => ?_, fun h => ?_, fun h => ?_, fun h => ?_⟩
  · exact operation_of_ok (requestAnswered_of_stale (s := s.begin) h)
  · exact plainOperation_of_eq (transferAnswered_of_stale (s := s.begin) h)
  · exact plainOperation_of_eq (configurationSet_of_stale (s := s.begin) h)
  · exact plainOperation_of_eq (interfaceSet_of_stale (s := s.begin) h)

/-- Settles O40: ignored, or the status stage opposite to the data stage, or the STALL. -/
theorem transferDoneAnswer : Obligations.TransferDoneAnswer := by
  refine fun s => ⟨fun h b => (staleCompletionsAreIgnored s .success 0 0 b).2.1 h, fun h hdir => ?_, fun h hdir => ?_,
    fun h => plainOperation_of_eq (transferAnswered_false (s := s.begin) h)⟩
  · exact plainOperation_of_eq ((transferAnswered_true (s := s.begin) h).trans (if_pos hdir))
  · exact plainOperation_of_eq ((transferAnswered_true (s := s.begin) h).trans (if_neg hdir))

/-! ### ABORT (R105) -/

/-- Settles O41: the body's own test of whether a transfer is in progress. -/
theorem abortEndsTransfer : Obligations.AbortEndsTransfer :=
  fun _ => ⟨fun h => plainOperation_of_eq (if_pos h), fun h => plainOperation_of_eq (if_neg h)⟩

end Sys2Proof.Machine
end

section
/-! The statements of spec/42_standard_requests.md: what each standard request does, and the STALLs of those that are
not allowed or do not fit (R108 to R118). -/

namespace Sys2Proof.Machine

open Sys2Proof.Claims

/-! ### The slot an endpoint address names (R73) -/

theorem validEp_eq_false_iff {ep : Byte} : validEp ep = false ↔ NoSlot ep := by
  rw [validEp, Bool.and_eq_false_iff, beq_eq_false_iff_ne, bne_eq_false_iff_eq]
  rfl

theorem validEp_of_isSlot {ep : Byte} {i : Fin 30} (h : IsSlot ep i) : validEp ep = true := by
  obtain ⟨hreserved, hnumber, -⟩ := h
  rw [validEp, hreserved, beq_self_eq_true, Bool.true_and, bne_iff_ne]
  exact hnumber

theorem epSlot_of_isSlot {ep : Byte} {i : Fin 30} (h : IsSlot ep i) : epSlot ep = some i := by
  have hindex : i.val = epIndex ep := h.2.2
  rw [epSlot, dif_pos ⟨validEp_of_isSlot h, hindex ▸ i.isLt⟩]
  exact congrArg some (Fin.ext hindex.symm)

theorem registeredSlot_of_isSlot {s : State} {ep : Byte} {i : Fin 30} (h : IsSlot ep i)
    (hv : (s.et[i.val]).valid = true) : registeredSlot ep s = some i :=
  registeredSlot_some.2 ⟨epSlot_of_isSlot h, hv⟩

theorem registeredSlot_of_unregistered {s : State} {ep : Byte} {i : Fin 30} (h : IsSlot ep i)
    (hv : (s.et[i.val]).valid = false) : registeredSlot ep s = none := by
  refine registeredSlot_none.2 fun j hj => ?_
  obtain rfl : i = j := Option.some.inj ((epSlot_of_isSlot h).symm.trans hj)
  exact hv

/-! ### The lifecycle states a request asks for (R108) -/

theorem addressed_ne_false {s : State} (h : Addressed s) : ¬addressed s = false :=
  ne_false_of_eq_true ((addressed_iff s).2 h)

theorem addressed_eq_false {s : State} (h : ¬Addressed s) : addressed s = false :=
  Bool.eq_false_iff.2 fun ha => h ((addressed_iff s).1 ha)

/-- Address is not Configured: the requests that need the latter STALL. -/
theorem not_configured_of_address {s : State} (h : s.lc = .address) : s.lc ≠ .configured := by
  rw [h]; exact Lifecycle.noConfusion

/-! ### Answers from REPLY (R49, R91) -/

/-- REPLY holds the bytes of `v`. -/
def State.withReply (v : Reply) (s : State) : State :=
  { s with ctx := { s.ctx with reply := v } }

/-- The bytes read from the start of REPLY are the first of its two. -/
theorem eq_take_of_bytesAt_reply {s : State} {d : List Byte} (h : BytesAt s (.reply 0) d) :
    d = [s.ctx.reply.b0, s.ctx.reply.b1].take d.length := by
  refine List.ext_getElem? fun k => ?_
  by_cases hk : k < d.length
  · rw [h k hk, List.getElem?_take_of_lt hk]
    exact congrArg (_[·]?) (Nat.zero_add k)
  · rw [List.getElem?_eq_none (Nat.le_of_not_lt hk), List.getElem?_eq_none]
    exact Nat.le_trans (List.length_take_le _ _) (Nat.le_of_not_lt hk)

/-- One packet of endpoint 0 takes all that REPLY can hold. -/
theorem min_mps0_of_le_two {n : Nat} (s : State) (h : n ≤ 2) : min n (mps0 s) = n := by
  have hmps := mps0_pos s.cfg.mps0
  rw [mps0_eq]
  omega

/-- A body that answers with Respond Send of the first bytes of REPLY. -/
theorem replies_of_respondSend {i : Instr} {body : State → Except Breach State} {r : RequestArgs} {s : State}
    {b : Byte} {size : Word} (hexec : exec i s = operation i body s) (hsize : size.toNat ≤ 2)
    (hbody : body s.begin = respondSend r.dirIn r.wLength (.reply 0) size false (s.begin.withReply ⟨b, 0⟩)) :
    Replies i r b size.toNat s := by
  unfold Replies
  by_cases hfits : r.dirIn = true ∧ r.wLength ≠ 0
  case neg =>
    rw [if_neg hfits, hexec]
    refine operation_of_ok (hbody.trans (respondSend_of_misfit ?_))
    exact (Decidable.not_and_iff_or_not.1 hfits).imp Bool.eq_false_iff.2 Decidable.not_not.1
  have htotal : min size.toNat r.wLength.toNat ≤ 2 := Nat.le_trans (Nat.min_le_left ..) hsize
  have hpacket := min_mps0_of_le_two (s.withReply ⟨b, 0⟩) htotal
  have hroom : 0 + min (min size.toNat r.wLength.toNat) (mps0 (s.withReply ⟨b, 0⟩)) ≤ 2 := by omega
  obtain ⟨hsends, -⟩ := sendsFirstPacket_of_sendReady (s := s.withReply ⟨b, 0⟩) hexec
    (hbody.trans (respondSend_of_fits hfits.1 hfits.2))
  obtain ⟨d, hlen, hbytes, hnext⟩ := hsends hroom
  obtain rfl : d = [b, 0#8].take (min size.toNat r.wLength.toNat) :=
    hlen.trans hpacket ▸ eq_take_of_bytesAt_reply hbytes
  rw [if_pos hfits]
  exact hnext

/-- The status word for the device: its low byte holds both bits (R72). -/
theorem deviceStatus_bytes (p w : Bool) :
    byteAt (deviceStatus p w) 0 = (if p then 1 else 0) ||| (if w then 2 else 0) ∧ byteAt (deviceStatus p w) 1 = 0 := by
  cases p <;> cases w <;> decide

/-- The status word for an endpoint: its low byte holds the halt bit (R72). -/
theorem endpointStatus_bytes (halt : Bool) :
    byteAt (endpointStatus halt) 0 = (if halt then 1 else 0) ∧ byteAt (endpointStatus halt) 1 = 0 := by
  cases halt <;> decide

/-- A body that answers with a status word of one byte. -/
theorem replies_of_replyStatus {i : Instr} {body : State → Except Breach State} {r : RequestArgs} {s : State}
    {v : Half} {b : Byte} (hexec : exec i s = operation i body s) (hbody : body s.begin = replyStatus v r s.begin)
    (hv : byteAt v 0 = b ∧ byteAt v 1 = 0) : Replies i r b 2 s := by
  obtain ⟨rfl, hhigh⟩ := hv
  refine replies_of_respondSend (size := 2) hexec (Nat.le_refl 2) (hbody.trans ?_)
  rw [replyStatus, hhigh]
  rfl

/-! ### GET_STATUS (R109), case by case -/

theorem reqEp_eq (r : RequestArgs) : reqEp r = endpointOf r := rfl

/-- The bits of wIndex around an endpoint address are 0 (R109). -/
theorem good_status_index {r : RequestArgs} (hhigh : r.wIndex.extractLsb' 8 8 = 0#8)
    (hreserved : (endpointOf r).extractLsb' 4 3 = 0#3) :
    ¬(byteAt r.wIndex 1 ≠ 0 ∨ (reqEp r).extractLsb' 4 3 ≠ 0#3) :=
  not_or_intro (not_not_intro hhigh) (not_not_intro hreserved)

section Status

variable {r : RequestArgs} {s : State}

theorem statusOfDevice_of_not_addressed (h : ¬Addressed s) : statusOfDevice r s = .ok (abortStall .reqState s) :=
  if_pos (addressed_eq_false h)

theorem statusOfDevice_of_addressed (h : Addressed s) :
    statusOfDevice r s = replyStatus (deviceStatus s.cfg.selfPowered s.remoteWakeup) r s :=
  if_neg (addressed_ne_false h)

theorem statusOfInterface_of_not_configured (h : s.lc ≠ .configured) :
    statusOfInterface r s = .ok (abortStall .reqState s) := by
  rw [statusOfInterface, if_pos h, ite_self]

theorem statusOfInterface_of_configured (h : s.lc = .configured) : statusOfInterface r s = replyStatus 0 r s := by
  rw [statusOfInterface, if_neg (addressed_ne_false (.inr h)), if_neg (not_not_intro h)]

theorem statusOfEndpoint_of_not_addressed (h : ¬Addressed s) : statusOfEndpoint r s = .ok (abortStall .reqState s) :=
  if_pos (addressed_eq_false h)

theorem statusOfEndpoint_of_bad_index (ha : Addressed s)
    (h : r.wIndex.extractLsb' 8 8 ≠ 0#8 ∨ (endpointOf r).extractLsb' 4 3 ≠ 0#3) :
    statusOfEndpoint r s = .ok (abortStall .reqTarget s) :=
  (if_neg (addressed_ne_false ha)).trans (if_pos h)

section Checked

variable {i : Fin 30} (hhigh : r.wIndex.extractLsb' 8 8 = 0#8)

include hhigh

theorem statusOfEndpoint_of_zero (ha : Addressed s) (hreserved : (endpointOf r).extractLsb' 4 3 = 0#3)
    (hzero : (endpointOf r).extractLsb' 0 4 = 0#4) : statusOfEndpoint r s = replyStatus 0 r s := by
  rw [statusOfEndpoint, if_neg (addressed_ne_false ha), if_neg (good_status_index hhigh hreserved)]
  exact if_pos hzero

theorem statusOfEndpoint_of_address (h : s.lc = .address) (hreserved : (endpointOf r).extractLsb' 4 3 = 0#3)
    (hnumber : (endpointOf r).extractLsb' 0 4 ≠ 0#4) : statusOfEndpoint r s = .ok (abortStall .reqState s) := by
  rw [statusOfEndpoint, if_neg (addressed_ne_false (.inl h)), if_neg (good_status_index hhigh hreserved), reqEp_eq,
    if_neg hnumber, if_pos (not_configured_of_address h)]

theorem statusOfEndpoint_of_unregistered (h : s.lc = .configured) (hslot : IsSlot (endpointOf r) i)
    (hv : (s.et[i.val]).valid = false) : statusOfEndpoint r s = .ok (abortStall .reqTarget s) := by
  rw [statusOfEndpoint, if_neg (addressed_ne_false (.inr h)), if_neg (good_status_index hhigh hslot.1), reqEp_eq,
    if_neg hslot.2.1, if_neg (not_not_intro h), registeredSlot_of_unregistered hslot hv]

theorem statusOfEndpoint_of_registered (h : s.lc = .configured) (hslot : IsSlot (endpointOf r) i)
    (hv : (s.et[i.val]).valid = true) :
    statusOfEndpoint r s = replyStatus (endpointStatus ((s.et[i.val]).flags.getLsbD 2)) r s := by
  rw [statusOfEndpoint, if_neg (addressed_ne_false (.inr h)), if_neg (good_status_index hhigh hslot.1), reqEp_eq,
    if_neg hslot.2.1, if_neg (not_not_intro h), registeredSlot_of_isSlot hslot hv]
  rfl

end Checked

end Status

/-- The reserved bits and the number of endpoint 0's two addresses are 0. -/
theorem endpoint_zero_bits {ep : Byte} (h : ep = 0x00 ∨ ep = 0x80) :
    ep.extractLsb' 4 3 = 0#3 ∧ ep.extractLsb' 0 4 = 0#4 := by
  rcases h with rfl | rfl <;> decide

/-- Settles O43: each check of R109 with its STALL, and the reply's bytes from the status word. -/
theorem statusIsReported : Obligations.StatusIsReported := by
  intro s r
  refine ⟨fun h => ⟨?_, ?_, ?_⟩, fun ha => ?_, fun h => ?_, fun h => ?_, fun ha hbad => ?_, fun ha hhigh hzero => ?_,
    fun i hhigh hslot => ⟨fun h => ?_, fun h hv => ?_, fun h hv => ?_⟩⟩
  · exact operation_of_ok (statusOfDevice_of_not_addressed (s := s.begin) h)
  · exact operation_of_ok (statusOfInterface_of_not_configured (s := s.begin) fun hc => h (.inr hc))
  · exact operation_of_ok (statusOfEndpoint_of_not_addressed (s := s.begin) h)
  · exact replies_of_replyStatus rfl (statusOfDevice_of_addressed (s := s.begin) ha) (deviceStatus_bytes ..)
  · exact operation_of_ok (statusOfInterface_of_not_configured (s := s.begin) (not_configured_of_address h))
  · exact replies_of_replyStatus rfl (statusOfInterface_of_configured (s := s.begin) h) ⟨rfl, rfl⟩
  · exact operation_of_ok (statusOfEndpoint_of_bad_index (s := s.begin) ha hbad)
  · obtain ⟨hreserved, hnumber⟩ := endpoint_zero_bits hzero
    exact replies_of_replyStatus rfl (statusOfEndpoint_of_zero (s := s.begin) hhigh ha hreserved hnumber) ⟨rfl, rfl⟩
  · obtain ⟨hreserved, hnumber, -⟩ := hslot
    exact operation_of_ok (statusOfEndpoint_of_address (s := s.begin) hhigh h hreserved hnumber)
  · exact operation_of_ok (statusOfEndpoint_of_unregistered (s := s.begin) hhigh h hslot hv)
  · exact replies_of_replyStatus rfl (statusOfEndpoint_of_registered (s := s.begin) hhigh h hslot hv)
      (endpointStatus_bytes _)

/-! ### SET_FEATURE and CLEAR_FEATURE (R110), case by case -/

/-- Respond Success of a request with no data stage, after the outputs `os`. -/
theorem respondSuccess_emitting {wl : Half} {os : List Output} {s : State} (h : wl = 0) :
    respondSuccess wl false (emitting os s) = resolved os s :=
  if_neg (not_not_intro h)

/-- StallEp, from the start of a step: its outputs and the record it leaves (R120). -/
theorem stallEp_begin (ep : Byte) (i : Fin 30) (s : State) :
    stallEp ep i s.begin = emitting
      (if 0 < (s.et[i.val]).pending.toNat then [.endpointStall ep, .endpointAbort ep] else [.endpointStall ep])
      (withEp i { s.et[i.val] with pending := 0, flags := (s.et[i.val]).flags ||| 4#8 } s) := by
  by_cases h : 0 < (s.et[i.val]).pending.toNat
  · have hpending : 0 < (s.begin.ep i).pending := h
    simp only [stallEp, if_pos h, if_pos hpending]
    rfl
  · have hpending : ¬0 < (s.begin.ep i).pending := h
    simp only [stallEp, if_neg h, if_neg hpending]
    rfl

/-- UnstallEp, from the start of a step (R121). -/
theorem unstallEp_begin (ep : Byte) (i : Fin 30) (s : State) :
    unstallEp ep i s.begin = emitting [.endpointUnstall ep]
      (withEp i { s.et[i.val] with flags := (s.et[i.val]).flags &&& ~~~4#8 } s) := rfl

section Feature

variable {r : RequestArgs} {s : State} (set : Bool)

theorem featureOfDevice_of_not_addressed (h : ¬Addressed s) : featureOfDevice set r s = abortStall .reqState s :=
  if_pos (addressed_eq_false h)

theorem featureOfDevice_of_unknown (ha : Addressed s) (hval : r.wValue ≠ 1) :
    featureOfDevice set r s = abortStall .reqUnsupported s :=
  (if_neg (addressed_ne_false ha)).trans (if_pos hval)

theorem featureOfDevice_of_data (ha : Addressed s) (hval : r.wValue = 1) (hlen : r.wLength ≠ 0) :
    featureOfDevice set r s = abortStall .resultMismatch s := by
  rw [featureOfDevice, if_neg (addressed_ne_false ha), if_neg (not_not_intro hval), if_pos hlen]

theorem featureOfDevice_of_wakeup (ha : Addressed s) (hval : r.wValue = 1) (hlen : r.wLength = 0) :
    featureOfDevice set r s.begin = resolved [] { s with remoteWakeup := set } := by
  have hchecked : ¬addressed s.begin = false := addressed_ne_false ha
  rw [featureOfDevice, if_neg hchecked, if_neg (not_not_intro hval), if_neg (not_not_intro hlen)]
  exact respondSuccess_emitting (os := []) (s := { s with remoteWakeup := set }) hlen

theorem featureOfEndpoint_of_not_addressed (h : ¬Addressed s) : featureOfEndpoint set r s = abortStall .reqState s :=
  if_pos (addressed_eq_false h)

theorem featureOfEndpoint_of_unknown (ha : Addressed s) (hval : r.wValue ≠ 0) :
    featureOfEndpoint set r s = abortStall .reqUnsupported s :=
  (if_neg (addressed_ne_false ha)).trans (if_pos hval)

section Halt

variable (hval : r.wValue = 0)

include hval

theorem featureOfEndpoint_of_bad_index (ha : Addressed s) (h : byteAt r.wIndex 1 ≠ 0 ∨ validEp (reqEp r) = false) :
    featureOfEndpoint set r s = abortStall .reqTarget s := by
  rw [featureOfEndpoint, if_neg (addressed_ne_false ha), if_neg (not_not_intro hval), if_pos h]

theorem featureOfEndpoint_of_address (h : s.lc = .address)
    (hgood : ¬(byteAt r.wIndex 1 ≠ 0 ∨ validEp (reqEp r) = false)) :
    featureOfEndpoint set r s = abortStall .reqState s := by
  rw [featureOfEndpoint, if_neg (addressed_ne_false (.inl h)), if_neg (not_not_intro hval), if_neg hgood,
    if_pos (not_configured_of_address h)]

section Configured

variable {i : Fin 30} (hgood : ¬(byteAt r.wIndex 1 ≠ 0 ∨ validEp (reqEp r) = false)) (h : s.lc = .configured)

include hgood h

theorem featureOfEndpoint_of_unregistered (hslot : IsSlot (endpointOf r) i) (hv : (s.et[i.val]).valid = false) :
    featureOfEndpoint set r s = abortStall .reqTarget s := by
  rw [featureOfEndpoint, if_neg (addressed_ne_false (.inr h)), if_neg (not_not_intro hval), if_neg hgood,
    if_neg (not_not_intro h), reqEp_eq, registeredSlot_of_unregistered hslot hv]

theorem featureOfEndpoint_of_data (hslot : IsSlot (endpointOf r) i) (hv : (s.et[i.val]).valid = true)
    (hlen : r.wLength ≠ 0) : featureOfEndpoint set r s = abortStall .resultMismatch s := by
  rw [featureOfEndpoint, if_neg (addressed_ne_false (.inr h)), if_neg (not_not_intro hval), if_neg hgood,
    if_neg (not_not_intro h), reqEp_eq, registeredSlot_of_isSlot hslot hv]
  exact if_pos hlen

theorem featureOfEndpoint_of_halt (hslot : IsSlot (endpointOf r) i) (hv : (s.et[i.val]).valid = true)
    (hlen : r.wLength = 0) :
    featureOfEndpoint set r s = respondSuccess r.wLength false
      (if set then stallEp (endpointOf r) i s else unstallEp (endpointOf r) i s) := by
  rw [featureOfEndpoint, if_neg (addressed_ne_false (.inr h)), if_neg (not_not_intro hval), if_neg hgood,
    if_neg (not_not_intro h), reqEp_eq, registeredSlot_of_isSlot hslot hv]
  exact if_neg (not_not_intro hlen)

end Configured

end Halt

end Feature

/-- R110's check of wIndex, in the words of R73. -/
theorem bad_endpoint_index_iff {r : RequestArgs} :
    byteAt r.wIndex 1 ≠ 0 ∨ validEp (reqEp r) = false ↔ r.wIndex.extractLsb' 8 8 ≠ 0#8 ∨ NoSlot (endpointOf r) :=
  or_congr_right validEp_eq_false_iff

theorem good_endpoint_index {r : RequestArgs} {i : Fin 30} (hhigh : r.wIndex.extractLsb' 8 8 = 0#8)
    (hslot : IsSlot (endpointOf r) i) : ¬(byteAt r.wIndex 1 ≠ 0 ∨ validEp (reqEp r) = false) :=
  not_or_intro (not_not_intro hhigh) (ne_false_of_eq_true (validEp_of_isSlot hslot))

/-- SET_FEATURE and CLEAR_FEATURE of the device, where their bodies STALL alike. -/
theorem exec_featureDevice_of_stall {r : RequestArgs} {s : State} {c : StallCause}
    (h : ∀ set, featureOfDevice set r s.begin = abortStall c s.begin) :
    exec (.setFeatureDevice r) s = .next (stalledWith c.code s) ∧
      exec (.clearFeatureDevice r) s = .next (stalledWith c.code s) :=
  ⟨plainOperation_of_eq (h true), plainOperation_of_eq (h false)⟩

/-- SET_FEATURE and CLEAR_FEATURE of an endpoint, where their bodies STALL alike. -/
theorem exec_featureEndpoint_of_stall {r : RequestArgs} {s : State} {c : StallCause}
    (h : ∀ set, featureOfEndpoint set r s.begin = abortStall c s.begin) :
    exec (.setFeatureEndpoint r) s = .next (stalledWith c.code s) ∧
      exec (.clearFeatureEndpoint r) s = .next (stalledWith c.code s) :=
  ⟨plainOperation_of_eq (h true), plainOperation_of_eq (h false)⟩

/-- Settles O44: each check of R110 with its STALL, then the write of the flag or of the endpoint's record. -/
theorem featureIsSwitched : Obligations.FeatureIsSwitched := by
  intro s r
  refine ⟨fun h => ?_, fun ha hval => ?_, fun ha hval hlen => ?_, fun ha hval hlen => ⟨?_, ?_⟩, fun h => ?_,
    fun ha hval => ?_, fun ha hval hbad => ?_, fun i hval hhigh hslot => ?_⟩
  · exact exec_featureDevice_of_stall fun set => featureOfDevice_of_not_addressed set h
  · exact exec_featureDevice_of_stall fun set => featureOfDevice_of_unknown set ha hval
  · exact exec_featureDevice_of_stall fun set => featureOfDevice_of_data set ha hval hlen
  · exact plainOperation_of_eq (featureOfDevice_of_wakeup true ha hval hlen)
  · exact plainOperation_of_eq (featureOfDevice_of_wakeup false ha hval hlen)
  · exact exec_featureEndpoint_of_stall fun set => featureOfEndpoint_of_not_addressed set h
  · exact exec_featureEndpoint_of_stall fun set => featureOfEndpoint_of_unknown set ha hval
  · exact exec_featureEndpoint_of_stall fun set =>
      featureOfEndpoint_of_bad_index set hval ha (bad_endpoint_index_iff.2 hbad)
  have hgood := good_endpoint_index hhigh hslot
  refine ⟨fun h => ?_, fun h hv => ?_, fun h hv hlen => ?_, fun h hv hlen => ⟨?_, ?_⟩⟩
  · exact exec_featureEndpoint_of_stall fun set => featureOfEndpoint_of_address set hval h hgood
  · exact exec_featureEndpoint_of_stall fun set => featureOfEndpoint_of_unregistered set hval hgood h hslot hv
  · exact exec_featureEndpoint_of_stall fun set => featureOfEndpoint_of_data set hval hgood h hslot hv hlen
  · refine plainOperation_of_eq ((featureOfEndpoint_of_halt (s := s.begin) true hval hgood h hslot hv hlen).trans ?_)
    rw [if_pos rfl, stallEp_begin]
    exact respondSuccess_emitting hlen
  · refine plainOperation_of_eq ((featureOfEndpoint_of_halt (s := s.begin) false hval hgood h hslot hv hlen).trans ?_)
    rw [if_neg Bool.false_ne_true, unstallEp_begin]
    exact respondSuccess_emitting hlen

/-! ### GET_DESCRIPTOR (R112), case by case -/

theorem byteAt_append (t n : Byte) : byteAt (t ++ n) 1 = t ∧ byteAt (t ++ n) 0 = n :=
  ⟨byteAt_le16_hi n t, byteAt_le16_lo n t⟩

section Describe

variable {r : RequestArgs} {s : State} {t n : Byte} (hval : r.wValue = t ++ n)

include hval

theorem describe_of_device (ht : t = 1) : describe r s = sendDescriptor s.cfg.descDevice r s := by
  rw [describe, hval, (byteAt_append t n).1, ht]
  rfl

theorem describe_of_configuration (ht : t = 2) :
    describe r s = sendDescriptor (descriptorAt n s.cfg.descConfiguration) r s := by
  rw [describe, hval, (byteAt_append t n).1, (byteAt_append t n).2, ht]
  rfl

theorem describe_of_string (ht : t = 3) (hn : n.toNat ≤ 5) :
    describe r s = sendDescriptor (descriptorAt n s.cfg.descString) r s := by
  rw [describe, hval, (byteAt_append t n).1, (byteAt_append t n).2, ht]
  exact if_neg (Nat.not_lt.2 hn)

theorem describe_of_unknown_string (ht : t = 3) (hn : 5 < n.toNat) :
    describe r s = .ok (abortStall .reqUnsupported s) := by
  rw [describe, hval, (byteAt_append t n).1, (byteAt_append t n).2, ht]
  exact if_pos hn

theorem describe_of_unknown_type (h1 : t ≠ 1) (h2 : t ≠ 2) (h3 : t ≠ 3) :
    describe r s = .ok (abortStall .reqUnsupported s) := by
  rw [describe, hval, (byteAt_append t n).1]
  split
  · exact absurd (byte_eq_of_toNat ‹_›) h1
  · exact absurd (byte_eq_of_toNat ‹_›) h2
  · exact absurd (byte_eq_of_toNat ‹_›) h3
  · rfl

end Describe

/-- Settles O46: the accessor that type and index select, and Respond Send of what it returns. -/
theorem descriptorIsSent : Obligations.DescriptorIsSent := by
  intro s r t n hval answer
  refine ⟨fun hanswer => ?_, fun hunknown => ?_⟩
  · have hbody : describe r s.begin = sendDescriptor answer r s.begin := by
      rcases hanswer with ⟨ht, rfl⟩ | ⟨ht, rfl⟩ | ⟨ht, hn, rfl⟩
      · exact describe_of_device hval ht
      · exact describe_of_configuration hval ht
      · exact describe_of_string hval ht hn
    refine ⟨fun d hd hdir hwl => ?_, fun d hd hmisfit => ?_, fun hnone => ?_⟩
    · rw [hd] at hbody
      exact sendsFirstPacket_of_sendReady rfl (hbody.trans (respondSend_of_fits hdir hwl))
    · rw [hd] at hbody
      exact operation_of_ok (hbody.trans (respondSend_of_misfit hmisfit))
    · rw [hnone] at hbody
      exact operation_of_ok hbody
  · rcases hunknown with ⟨h1, h2, h3⟩ | ⟨ht, hn⟩
    · exact operation_of_ok (describe_of_unknown_type (s := s.begin) hval h1 h2 h3)
    · exact operation_of_ok (describe_of_unknown_string (s := s.begin) hval ht hn)

/-! ### SET_ADDRESS (R111), case by case -/

section Latch

variable {r : RequestArgs} {s : State}

theorem latchAddress_of_state (hd : s.lc ≠ .default) (ha : s.lc ≠ .address) :
    latchAddress r s = abortStall .reqState s :=
  if_pos ⟨hd, ha⟩

section Allowed

variable (hl : s.lc = .default ∨ s.lc = .address)

include hl

theorem state_allows_address : ¬(s.lc ≠ .default ∧ s.lc ≠ .address) :=
  fun ⟨hd, ha⟩ => hl.elim hd ha

theorem latchAddress_of_large (hval : 127 < r.wValue.toNat) : latchAddress r s = abortStall .reqTarget s :=
  (if_neg (state_allows_address hl)).trans (if_pos hval)

theorem latchAddress_of_data (hval : r.wValue.toNat ≤ 127) (hlen : r.wLength ≠ 0) :
    latchAddress r s = abortStall .resultMismatch s :=
  (if_neg (state_allows_address hl)).trans ((if_neg (Nat.not_lt.2 hval)).trans (if_pos hlen))

theorem latchAddress_of_fits (hval : r.wValue.toNat ≤ 127) (hlen : r.wLength = 0) :
    latchAddress r s = respondSuccess r.wLength false
      { s with ctx := { s.ctx with pendAddrValid := true, pendAddr := BitVec.ofNat 7 r.wValue.toNat } } := by
  rw [BitVec.ofNat_toNat]
  exact (if_neg (state_allows_address hl)).trans ((if_neg (Nat.not_lt.2 hval)).trans (if_neg (not_not_intro hlen)))

end Allowed

end Latch

/-- Settles O45: each check of R111 with its STALL, and the address latched. -/
theorem addressIsLatched : Obligations.AddressIsLatched := by
  refine fun s r => ⟨fun hd ha => ?_, fun hl hval hlen => ?_, fun hl hval => ?_, fun hl hval hlen => ?_⟩
  · exact plainOperation_of_eq (latchAddress_of_state (s := s.begin) hd ha)
  · exact plainOperation_of_eq ((latchAddress_of_fits (s := s.begin) hl hval hlen).trans (if_neg (not_not_intro hlen)))
  · exact plainOperation_of_eq (latchAddress_of_large (s := s.begin) hl hval)
  · exact plainOperation_of_eq (latchAddress_of_data (s := s.begin) hl hval hlen)

/-! ### The selection: reading it and changing it (R113, R114, R116, R117) -/

section Selection

variable {r : RequestArgs} {s : State}

theorem tellConfiguration_of_not_addressed (h : ¬Addressed s) :
    tellConfiguration r s = .ok (abortStall .reqState s) :=
  if_pos (addressed_eq_false h)

theorem tellConfiguration_of_addressed (h : Addressed s) : tellConfiguration r s = replyByte s.configuration r s :=
  if_neg (addressed_ne_false h)

theorem tellInterface_of_not_configured (h : s.lc ≠ .configured) :
    tellInterface r s = .ok (abortStall .reqState s) :=
  if_pos h

theorem tellInterface_of_configured (h : s.lc = .configured) : tellInterface r s = replyByte s.alternate r s :=
  if_neg (not_not_intro h)

theorem askConfiguration_of_not_addressed (h : ¬Addressed s) : askConfiguration r s = abortStall .reqState s :=
  if_pos (addressed_eq_false h)

theorem askConfiguration_of_addressed (h : Addressed s) : askConfiguration r s.begin =
    if r.wLength = 0 then
      emitting [.cbSetConfiguration (r.wValue.extractLsb' 0 8)]
        { s with ctx := { s.ctx with awaiting := .setConfiguration } }
    else stalledWith 6 s :=
  (if_neg (addressed_ne_false (s := s.begin) h)).trans (ite_not ..)

theorem askInterface_of_not_configured (h : s.lc ≠ .configured) : askInterface r s = abortStall .reqState s :=
  if_pos h

theorem askInterface_of_configured (h : s.lc = .configured) : askInterface r s.begin =
    if r.wLength = 0 then
      emitting [.cbSetInterface (r.wIndex.extractLsb' 0 8) (r.wValue.extractLsb' 0 8)]
        { s with ctx := { s.ctx with awaiting := .setInterface } }
    else stalledWith 6 s :=
  (if_neg (not_not_intro h)).trans (ite_not ..)

end Selection

/-- A body that answers with one byte. -/
theorem replies_of_replyByte {i : Instr} {body : State → Except Breach State} {r : RequestArgs} {s : State}
    {b : Byte} (hexec : exec i s = operation i body s) (hbody : body s.begin = replyByte b r s.begin) :
    Replies i r b 1 s :=
  replies_of_respondSend (size := 1) hexec (by decide) hbody

/-- Settles O47: the byte, or the STALL of the wrong state. -/
theorem selectionIsReported : Obligations.SelectionIsReported := by
  refine fun s r => ⟨fun h => ?_, fun h => ?_, fun h => ?_, fun h => ?_⟩
  · exact replies_of_replyByte rfl (tellConfiguration_of_addressed (s := s.begin) h)
  · exact operation_of_ok (tellConfiguration_of_not_addressed (s := s.begin) h)
  · exact replies_of_replyByte rfl (tellInterface_of_configured (s := s.begin) h)
  · exact operation_of_ok (tellInterface_of_not_configured (s := s.begin) h)

/-- Settles O48: the callback, or the STALL of a data stage or of the wrong state. -/
theorem selectionIsDelegated : Obligations.SelectionIsDelegated := by
  refine fun s r => ⟨fun h => ?_, fun h => ?_, fun h => ?_, fun h => ?_⟩
  · exact plainOperation_of_eq (askConfiguration_of_addressed h)
  · exact plainOperation_of_eq (askConfiguration_of_not_addressed (s := s.begin) h)
  · exact plainOperation_of_eq (askInterface_of_configured h)
  · exact plainOperation_of_eq (askInterface_of_not_configured (s := s.begin) h)

/-! ### The class's answers to a change of the selection (R115, R118) -/

/-- The configuration `c` was accepted, with the first setting of its interface, before the lifecycle follows it. -/
def State.selecting (c : Byte) (s : State) : State :=
  { s.answered with configuration := c, iface := 0, alternate := 0 }

section Answered

variable {s : State}

theorem configurationSet_false (h : s.ctx.awaiting = .setConfiguration) :
    configurationSet false s = abortStall .configFailed s.answered :=
  if_neg (not_not_intro h)

section Accepted

variable (h : s.ctx.awaiting = .setConfiguration)

include h

theorem configurationSet_of_nonzero (hc : s.ctx.setup.b2 ≠ 0) : configurationSet true s =
    respondSuccess s.ctx.setup.wLength false (changeState .configured (s.selecting s.ctx.setup.b2)) := by
  rw [configurationSet, if_neg (not_not_intro h), if_neg Bool.noConfusion, SetupPacket.wValue, byteAt_le16_lo]
  dsimp only
  rw [if_pos hc]
  rfl

theorem configurationSet_of_zero (hc : s.ctx.setup.b2 = 0) : configurationSet true s =
    respondSuccess s.ctx.setup.wLength false (changeState .address (s.selecting s.configuration)) := by
  rw [configurationSet, if_neg (not_not_intro h), if_neg Bool.noConfusion, SetupPacket.wValue, byteAt_le16_lo]
  dsimp only
  rw [if_neg (not_not_intro hc)]
  rfl

end Accepted

theorem interfaceSet_false (h : s.ctx.awaiting = .setInterface) :
    interfaceSet false s = abortStall .interfaceFailed s.answered :=
  if_neg (not_not_intro h)

theorem interfaceSet_true (h : s.ctx.awaiting = .setInterface) : interfaceSet true s =
    respondSuccess s.ctx.setup.wLength false
      { s.answered with iface := s.ctx.setup.b4, alternate := s.ctx.setup.b2 } := by
  rw [interfaceSet, if_neg (not_not_intro h), if_neg Bool.noConfusion, SetupPacket.wValue, SetupPacket.wIndex,
    byteAt_le16_lo, byteAt_le16_lo]

end Answered

theorem changeState_selecting (new : Lifecycle) (c : Byte) (s : State) :
    changeState new (s.begin.selecting c) = moved new [] (s.selecting c) :=
  changeState_emitting new [] (s.selecting c)

/-- Configured again, or for the first time: the lifecycle's callback in the latter case alone (R132). -/
theorem moved_configured (s : State) : moved .configured [] s =
    emitting (if s.lc = .configured then [] else [.cbStateChange .configured]) { s with lc := .configured } := by
  unfold moved
  by_cases h : s.lc = .configured
  · rw [if_pos h, if_pos h, ← h]
  · rw [if_neg h, if_neg h]
    rfl

/-- Back from Configured to Address, the selection is lost (R132). -/
theorem moved_address_of_configured {s : State} (h : s.lc = .configured) : moved .address [] s =
    emitting [.cbStateChange .address] { s with lc := .address, configuration := 0, iface := 0, alternate := 0 } :=
  if_neg (by rw [h]; exact Lifecycle.noConfusion)

theorem moved_address_of_address {s : State} (h : s.lc = .address) : moved .address [] s = emitting [] s :=
  if_pos h

/-- Settles O49: the selection as the class accepted it, and ChangeState's move. -/
theorem selectionAnswers : Obligations.SelectionAnswers := by
  refine ⟨fun s c hwait hc hdata _ => ?_, fun s hwait hdata => ⟨?_, ?_⟩⟩
  · subst hc
    have hlen : s.ctx.setup.wLength = 0 := hdata (.inl hwait)
    refine ⟨fun hc => ?_, fun hc hl => ?_, fun hc hl => ?_, ?_⟩
    · refine plainOperation_of_eq ((configurationSet_of_nonzero (s := s.begin) hwait hc).trans ?_)
      rw [changeState_selecting, moved_configured]
      exact respondSuccess_emitting hlen
    · refine plainOperation_of_eq ((configurationSet_of_zero (s := s.begin) hwait hc).trans ?_)
      rw [changeState_selecting, moved_address_of_configured (s := s.selecting _) hl]
      exact respondSuccess_emitting hlen
    · refine plainOperation_of_eq ((configurationSet_of_zero (s := s.begin) hwait hc).trans ?_)
      rw [changeState_selecting, moved_address_of_address (s := s.selecting _) hl]
      exact respondSuccess_emitting hlen
    · exact plainOperation_of_eq (configurationSet_false (s := s.begin) hwait)
  · exact plainOperation_of_eq ((interfaceSet_true (s := s.begin) hwait).trans
      (respondSuccess_emitting (os := [])
        (s := { s.answered with iface := s.ctx.setup.b4, alternate := s.ctx.setup.b2 }) (hdata (.inr hwait))))
  · exact plainOperation_of_eq (interfaceSet_false (s := s.begin) hwait)

/-! ### Requests that are not allowed (R108) -/

theorem not_addressed_of_decide {s : State} (h : decide (s.lc = .address ∨ s.lc = .configured) = false) :
    ¬Addressed s :=
  fun ha => of_decide_eq_false h ha

section Disallowed

variable {i : Instr} {r : RequestArgs} {s : State}

/-- In Address, an endpoint other than endpoint 0 has no status to report: one of two checks STALLs. -/
theorem statusOfEndpoint_in_address (h : s.lc = .address) (hnumber : (endpointOf r).extractLsb' 0 4 ≠ 0#4) :
    ∃ c, statusOfEndpoint r s = .ok (abortStall c s) := by
  by_cases hbad : r.wIndex.extractLsb' 8 8 ≠ 0#8 ∨ (endpointOf r).extractLsb' 4 3 ≠ 0#3
  · exact ⟨_, statusOfEndpoint_of_bad_index (.inl h) hbad⟩
  · obtain ⟨hhigh, hreserved⟩ := not_or.1 hbad
    exact ⟨_, statusOfEndpoint_of_address (Decidable.not_not.1 hhigh) h (Decidable.not_not.1 hreserved) hnumber⟩

/-- Outside Configured, no endpoint's halt is switched: in Address one of three checks STALLs. -/
theorem featureOfEndpoint_of_not_configured (set : Bool) (hc : s.lc ≠ .configured) :
    featureOfEndpoint set r s = abortStall .reqState s ∨
    (s.lc = .address ∧ ∃ c, featureOfEndpoint set r s = abortStall c s) := by
  by_cases ha : s.lc = .address
  case neg => exact .inl (featureOfEndpoint_of_not_addressed set (not_or_intro ha hc))
  refine .inr ⟨ha, ?_⟩
  by_cases hval : r.wValue = 0
  case neg => exact ⟨_, featureOfEndpoint_of_unknown set (.inl ha) hval⟩
  by_cases hbad : byteAt r.wIndex 1 ≠ 0 ∨ validEp (reqEp r) = false
  · exact ⟨_, featureOfEndpoint_of_bad_index set hval (.inl ha) hbad⟩
  · exact ⟨_, featureOfEndpoint_of_address set hval ha hbad⟩

/-- The handler of a request that is not allowed STALLs with REQ_STATE, or the request is an endpoint's in Address. -/
theorem handler_of_disallowed (hk : i.kind = .request) (h : allowedIn i s.lc = false) :
    handler i s = .ok (abortStall .reqState s) ∨
    (s.lc = .address ∧ (∃ r, i = .getStatusEndpoint r ∨ i = .clearFeatureEndpoint r ∨ i = .setFeatureEndpoint r) ∧
      ∃ c, handler i s = .ok (abortStall c s)) := by
  cases i
  case getStatusDevice r => exact .inl (statusOfDevice_of_not_addressed (not_addressed_of_decide h))
  case getStatusInterface r => exact .inl (statusOfInterface_of_not_configured (of_decide_eq_false h))
  case getStatusEndpoint r =>
    obtain ⟨hc, hzero⟩ := not_or.1 (of_decide_eq_false h)
    by_cases ha : s.lc = .address
    · exact .inr ⟨ha, ⟨r, .inl rfl⟩, statusOfEndpoint_in_address ha fun hnumber => hzero ⟨ha, hnumber⟩⟩
    · exact .inl (statusOfEndpoint_of_not_addressed (not_or_intro ha hc))
  case clearFeatureDevice r =>
    exact .inl (congrArg _ (featureOfDevice_of_not_addressed false (not_addressed_of_decide h)))
  case setFeatureDevice r =>
    exact .inl (congrArg _ (featureOfDevice_of_not_addressed true (not_addressed_of_decide h)))
  case clearFeatureEndpoint r =>
    exact (featureOfEndpoint_of_not_configured false (of_decide_eq_false h)).imp (congrArg _)
      fun ⟨ha, c, hstall⟩ => ⟨ha, ⟨r, .inr (.inl rfl)⟩, c, congrArg _ hstall⟩
  case setFeatureEndpoint r =>
    exact (featureOfEndpoint_of_not_configured true (of_decide_eq_false h)).imp (congrArg _)
      fun ⟨ha, c, hstall⟩ => ⟨ha, ⟨r, .inr (.inr rfl)⟩, c, congrArg _ hstall⟩
  case setAddress r =>
    obtain ⟨hd, ha⟩ := not_or.1 (of_decide_eq_false h)
    exact .inl (congrArg _ (latchAddress_of_state hd ha))
  case getDescriptor r => cases h
  case getConfiguration r => exact .inl (tellConfiguration_of_not_addressed (not_addressed_of_decide h))
  case setConfiguration r => exact .inl (congrArg _ (askConfiguration_of_not_addressed (not_addressed_of_decide h)))
  case getInterface r => exact .inl (tellInterface_of_not_configured (of_decide_eq_false h))
  case setInterface r => exact .inl (congrArg _ (askInterface_of_not_configured (of_decide_eq_false h)))
  all_goals cases hk

end Disallowed

/-- Settles O42: every handler checks the lifecycle state, the endpoint requests in Address after their operands. -/
theorem requestsNeedTheirState : Obligations.RequestsNeedTheirState := by
  intro s i hk h
  have hexec := exec_request i s hk
  rcases handler_of_disallowed (s := s.begin) hk h with hstall | ⟨ha, ⟨r, hi⟩, c, hstall⟩
  · exact ⟨3, hexec.trans (operation_of_ok hstall), fun _ => rfl, fun _ => rfl⟩
  · refine ⟨c.code, hexec.trans (operation_of_ok hstall), fun hne => absurd ha hne, fun hother => ?_⟩
    obtain ⟨hget, hclear, hset⟩ := hother r
    rcases hi with hi | hi | hi
    · exact absurd hi hget
    · exact absurd hi hclear
    · exact absurd hi hset

end Sys2Proof.Machine
end

section
/-! The statements of spec/43_endpoints.md: what each command and event of the other endpoints does, what a command that
fails leaves alone, and that the control transfer and the Endpoint Table are apart (R119 to R131, R169). -/

namespace Sys2Proof.Machine

open Sys2Proof.Claims

/-! ### The slot a command works on (R119) -/

theorem epSlot_of_noSlot {ep : Byte} (h : NoSlot ep) : epSlot ep = none :=
  dif_neg fun hv => ne_false_of_eq_true hv.1 (validEp_eq_false_iff.2 h)

section Slots

variable {ep : Byte} {s : State} {i : Fin 30}

theorem registeredSlot_of_absent (h : Absent ep s) : registeredSlot ep s = none := by
  rcases h with h | ⟨i, hslot, hv⟩
  · rw [registeredSlot, epSlot_of_noSlot h]
  · exact registeredSlot_of_unregistered hslot hv

theorem inSlot_of_isSlot (hin : In ep) (hslot : IsSlot ep i) (hv : (s.et[i.val]).valid = true) :
    inSlot ep s = some i :=
  inSlot_some.2 ⟨hin, epSlot_of_isSlot hslot, hv⟩

theorem outSlot_of_isSlot (hout : ¬In ep) (hslot : IsSlot ep i) (hv : (s.et[i.val]).valid = true) :
    outSlot ep s = some i :=
  outSlot_some.2 ⟨Bool.eq_false_iff.2 hout, epSlot_of_isSlot hslot, hv⟩

theorem inSlot_of_not_in (h : ¬In ep) : inSlot ep s = none :=
  if_neg h

theorem outSlot_of_in (h : In ep) : outSlot ep s = none :=
  if_pos h

theorem inSlot_of_absent (h : Absent ep s) : inSlot ep s = none := by
  rw [inSlot, registeredSlot_of_absent h, ite_self]

theorem outSlot_of_absent (h : Absent ep s) : outSlot ep s = none := by
  rw [outSlot, registeredSlot_of_absent h, ite_self]

/-- A command for IN endpoints finds no slot, or the one the address names. -/
theorem inSlot_none_or_some (hslot : IsSlot ep i) : inSlot ep s = none ∨ inSlot ep s = some i := by
  cases h : inSlot ep s with
  | none => exact .inl rfl
  | some j => exact .inr ((inSlot_some.1 h).2.1.symm.trans (epSlot_of_isSlot hslot))

/-- A command for OUT endpoints finds no slot, or the one the address names. -/
theorem outSlot_none_or_some (hslot : IsSlot ep i) : outSlot ep s = none ∨ outSlot ep s = some i := by
  cases h : outSlot ep s with
  | none => exact .inl rfl
  | some j => exact .inr ((outSlot_some.1 h).2.1.symm.trans (epSlot_of_isSlot hslot))

end Slots

theorem not_pos_of_eq_zero {p : Byte} (h : p = 0) : ¬0 < p := by
  rw [h]; decide

theorem pos_of_ne_zero {p : Byte} (h : p ≠ 0) : 0 < p := by
  bv_omega

/-- The checks that compare a 32-bit size with a max packet size compare the numbers. -/
theorem lt_mps_iff {x : Word} {m : Half} : x < m.setWidth 32 ↔ x.toNat < m.toNat := by
  rw [BitVec.lt_def, toNat_setWidth_half]

theorem mps_lt_iff {x : Word} {m : Half} : m.setWidth 32 < x ↔ m.toNat < x.toNat := by
  rw [BitVec.lt_def, toNat_setWidth_half]

/-! ### EP_ADD (R122), case by case -/

theorem typeAccepted_iff {ty : Byte} : typeAccepted ty = true ↔ ty.toNat = 1 ∨ ty.toNat = 2 ∨ ty.toNat = 3 := by
  simp only [typeAccepted, Bool.or_eq_true, beq_iff_eq, or_assoc, ← BitVec.toNat_inj]
  rfl

/-- The record EP_ADD installs. -/
def EpRecord.added (m : Half) (ty : Byte) (c : Word) : EpRecord where
  valid   := true
  cb      := c
  mps     := m
  flags   := ty
  pending := 0
  rx      := none

/-- The PHY has been asked whether it takes the endpoint, and the draw is used up. -/
def State.phyAsked (ep : Byte) (m : Half) (ty : Byte) (s : State) : State :=
  nextDraw (s.emit (.endpointAdd ep m (ty.setWidth 2)))

section Add

variable {ep : Byte} {m : Half} {ty : Byte} {c : Word} {s : State} {i : Fin 30}

theorem addEndpoint_of_no_slot (h : epSlot ep = none) : addEndpoint ep m ty c s = s.answer false := by
  rw [addEndpoint, h]

theorem addEndpoint_of_bad_type (h : typeAccepted ty = false) : addEndpoint ep m ty c s = s.answer false := by
  unfold addEndpoint
  split
  · rfl
  · exact if_pos h

theorem addEndpoint_of_registered (hslot : epSlot ep = some i) (hv : (s.ep i).valid = true) :
    addEndpoint ep m ty c s = s.answer false := by
  simp only [addEndpoint, hslot, if_pos hv, ite_self]

/-- Where the slot is free the table is not full, so the PHY is asked. -/
theorem addEndpoint_of_free (hslot : epSlot ep = some i) (hty : typeAccepted ty = true)
    (hv : (s.ep i).valid = false) :
    addEndpoint ep m ty c s =
      if phyAddOk s then ((s.phyAsked ep m ty).setEp i (.added m ty c)).answer true
      else (s.phyAsked ep m ty).answer false := by
  simp only [addEndpoint, hslot, if_neg (ne_false_of_eq_true hty), if_neg (Bool.eq_false_iff.1 hv),
    if_neg (Nat.not_le.2 (registered_lt hv))]
  rfl

end Add

/-- Settles O51: the PHY's answer decides for a free slot and an accepted type, and each other check refuses. -/
theorem endpointAdd : Obligations.EndpointAdd := by
  refine fun s ep m ty c => ⟨fun i hslot hty hv => ?_, fun h => plainOperation_of_eq ?_⟩
  · refine plainOperation_of_eq
      ((addEndpoint_of_free (s := s.begin) (epSlot_of_isSlot hslot) (typeAccepted_iff.2 hty) hv).trans ?_)
    have hask : phyAddOk s.begin = phyAddOk s := rfl
    rw [hask]
    cases phyAddOk s <;> rfl
  · rcases h with hno | hty | ⟨i, hslot, hv⟩
    · exact addEndpoint_of_no_slot (s := s.begin) (epSlot_of_noSlot hno)
    · exact addEndpoint_of_bad_type (s := s.begin) (Bool.eq_false_iff.2 fun h => hty (typeAccepted_iff.1 h))
    · exact addEndpoint_of_registered (s := s.begin) (epSlot_of_isSlot hslot) hv

/-! ### EP_REMOVE (R123), EP_STALL (R124) and EP_UNSTALL (R125) -/

/-- The shape of the three commands that ask only for a registered endpoint: `f` on its slot, or false. -/
def onRegistered (ep : Byte) (f : Fin 30 → State → State) (s : State) : State :=
  match registeredSlot ep s with
  | none => s.answer false
  | some i => (f i s).answer true

/-- EP_REMOVE's work on a registered slot (R123). -/
def removeEp (ep : Byte) (i : Fin 30) (s : State) : State :=
  ((if 0 < (s.ep i).pending then s.emit (.endpointAbort ep) else s).emit (.endpointRemove ep)).setEp i EpRecord.empty

theorem exec_epRemove (ep : Byte) (s : State) :
    exec (.epRemove ep) s = plainOperation (onRegistered ep (removeEp ep)) s := rfl

theorem exec_epStall (ep : Byte) (s : State) :
    exec (.epStall ep) s = plainOperation (onRegistered ep (stallEp ep)) s := rfl

theorem exec_epUnstall (ep : Byte) (s : State) :
    exec (.epUnstall ep) s = plainOperation (onRegistered ep (unstallEp ep)) s := rfl

section Registered

variable {ep : Byte} {f : Fin 30 → State → State} {s : State} {i : Fin 30}

theorem onRegistered_of_none (h : registeredSlot ep s = none) : onRegistered ep f s = s.answer false := by
  rw [onRegistered, h]

theorem onRegistered_of_some (h : registeredSlot ep s = some i) : onRegistered ep f s = (f i s).answer true := by
  rw [onRegistered, h]

theorem next_of_absent (h : Absent ep s) :
    plainOperation (onRegistered ep f) s = .next (answering [] false s) :=
  plainOperation_of_eq (onRegistered_of_none (s := s.begin) (registeredSlot_of_absent h))

theorem next_of_registered {os : List Output} {u : State} (hslot : IsSlot ep i) (hv : (s.et[i.val]).valid = true)
    (hf : f i s.begin = emitting os u) : plainOperation (onRegistered ep f) s = .next (answering os true u) := by
  refine plainOperation_of_eq
    ((onRegistered_of_some (s := s.begin) (registeredSlot_of_isSlot hslot hv)).trans ?_)
  rw [hf]
  rfl

end Registered

/-- EP_REMOVE's work, from the start of a step. -/
theorem removeEp_begin (ep : Byte) (i : Fin 30) (s : State) :
    removeEp ep i s.begin = emitting
      (if 0 < (s.et[i.val]).pending.toNat then [.endpointAbort ep, .endpointRemove ep] else [.endpointRemove ep])
      (withEp i EpRecord.empty s) := by
  by_cases h : 0 < (s.et[i.val]).pending.toNat
  · have hpending : 0 < (s.begin.ep i).pending := h
    rw [removeEp, if_pos h, if_pos hpending]
    rfl
  · have hpending : ¬0 < (s.begin.ep i).pending := h
    rw [removeEp, if_neg h, if_neg hpending]
    rfl

/-- Settles O52: what each command does to a registered endpoint, and the refusal of both where there is none. -/
theorem endpointRemoveAndStall : Obligations.EndpointRemoveAndStall := by
  refine fun s ep => ⟨fun i hslot hv => ⟨?_, ?_⟩, fun h => ⟨?_, ?_⟩⟩
  · exact (exec_epRemove ep s).trans (next_of_registered hslot hv (removeEp_begin ep i s))
  · exact (exec_epStall ep s).trans (next_of_registered hslot hv (stallEp_begin ep i s))
  · exact (exec_epRemove ep s).trans (next_of_absent h)
  · exact (exec_epStall ep s).trans (next_of_absent h)

/-- Settles O53: UnstallEp asks nothing of the STALLED bit. -/
theorem endpointUnstall : Obligations.EndpointUnstall := by
  refine fun s ep => ⟨fun i hslot hv => ?_, fun h => (exec_epUnstall ep s).trans (next_of_absent h)⟩
  exact (exec_epUnstall ep s).trans (next_of_registered hslot hv (unstallEp_begin ep i s))

/-! ### READ_START (R126), case by case -/

section Start

variable {ep : Byte} {s : State} {i : Fin 30}

theorem startRead_of_no_slot (h : outSlot ep s = none) : startRead ep s = s.answer false := by
  rw [startRead, h]

theorem startRead_of_stalled (hslot : outSlot ep s = some i) (h : flagsStalled (s.ep i).flags = true) :
    startRead ep s = s.answer false := by
  simp only [startRead, hslot, if_pos h]

theorem startRead_of_pending (hslot : outSlot ep s = some i) (h : 0 < (s.ep i).pending) :
    startRead ep s = s.answer false := by
  simp only [startRead, hslot, if_pos h, ite_self]

theorem startRead_of_idle (hslot : outSlot ep s = some i) (hstall : flagsStalled (s.ep i).flags = false)
    (hpending : ¬0 < (s.ep i).pending) :
    startRead ep s =
      ((s.setEp i { s.ep i with pending := 1, rx := none }).emit (.endpointRead ep (s.ep i).mps)).answer true := by
  simp only [startRead, hslot, if_neg (Bool.eq_false_iff.1 hstall), if_neg hpending]

end Start

/-- Settles O54: each check of R126 with its refusal, and the endpoint armed. -/
theorem readStart : Obligations.ReadStart := by
  refine fun s ep => ⟨fun i hout hslot hv hstall hpending => ?_, fun h => plainOperation_of_eq ?_⟩
  · exact plainOperation_of_eq
      (startRead_of_idle (s := s.begin) (outSlot_of_isSlot hout hslot hv) hstall (not_pos_of_eq_zero hpending))
  · rcases h with hin | habs | ⟨i, hslot, h⟩
    · exact startRead_of_no_slot (s := s.begin) (outSlot_of_in hin)
    · exact startRead_of_no_slot (s := s.begin) (outSlot_of_absent habs)
    · rcases outSlot_none_or_some (s := s.begin) hslot with hnone | hsome
      · exact startRead_of_no_slot hnone
      · rcases h with hstall | hpending
        · exact startRead_of_stalled hsome hstall
        · exact startRead_of_pending hsome (pos_of_ne_zero hpending)

/-! ### READ_FINISH (R127), case by case -/

section Finish

variable {ep : Byte} {a x : Word} {s : State} {i : Fin 30}

theorem finishRead_of_no_slot (h : outSlot ep s = none) : finishRead ep a x s = .ok (s.answerSized false 0) := by
  rw [finishRead, h]

/-- There is no completed packet that the buffer has room for. -/
theorem finishRead_of_not_ready (hslot : outSlot ep s = some i)
    (h : x < (s.ep i).mps.setWidth 32 ∨ 0 < (s.ep i).pending ∨ (s.ep i).rx = none) :
    finishRead ep a x s = .ok (s.answerSized false 0) := by
  rcases h with h | h | h
  · simp only [finishRead, hslot, if_pos h]
  · simp only [finishRead, hslot, if_pos h, ite_self]
  · simp only [finishRead, hslot, h, ite_self]

section Ready

variable {d : List Byte} (hslot : outSlot ep s = some i) (hroom : ¬x < (s.ep i).mps.setWidth 32)
  (hpending : ¬0 < (s.ep i).pending) (hrx : (s.ep i).rx = some d)

include hslot hroom hpending hrx

theorem finishRead_of_admitted (h : d.take x.toNat = [] ∨ s.admits a (BitVec.ofNat 32 (d.take x.toNat).length) = true) :
    finishRead ep a x s =
      .ok (({ s with mem := Memory.writeBytes s.mem a (d.take x.toNat) }.setEp i
        { s.ep i with rx := none }).answerSized true (BitVec.ofNat 32 (d.take x.toNat).length)) := by
  simp only [finishRead, hslot, if_neg hroom, if_neg hpending, hrx, memWrite_of_admitted h]
  rfl

theorem finishRead_of_missing (h0 : d.take x.toNat ≠ [])
    (h : s.admits a (BitVec.ofNat 32 (d.take x.toNat).length) = false) :
    finishRead ep a x s = .error (.bufferFault (.mem a) (BitVec.ofNat 32 (d.take x.toNat).length)) := by
  simp only [finishRead, hslot, if_neg hroom, if_neg hpending, hrx, memWrite_of_missing h0 h]

end Ready

end Finish

theorem length_take_toNat (d : List Byte) (x : Word) : (d.take x.toNat).length = min d.length x.toNat := by
  rw [List.length_take, Nat.min_comm]

/-- Settles O55: the packet is stored where its bytes exist, and each other check of R127 refuses. -/
theorem readFinish : Obligations.ReadFinish := by
  refine fun s ep a x hwf => ⟨fun i d hout hslot hv hpending hroom hrx h => ?_,
    fun i d hout hslot hv hpending hroom hrx h0 h => ?_, fun h => operation_of_ok ?_⟩
  · have hlen := length_take_toNat d x
    rw [← hlen] at h ⊢
    refine ⟨_, operation_of_ok (finishRead_of_admitted (s := s.begin) (outSlot_of_isSlot hout hslot hv)
      (fun hx => Nat.not_lt.2 hroom (lt_mps_iff.1 hx)) (not_pos_of_eq_zero hpending) hrx h),
      stored_of_writeBytes hwf ?_ rfl, rfl⟩
    have := x.isLt
    omega
  · rw [← length_take_toNat] at h ⊢
    exact operation_of_error (finishRead_of_missing (s := s.begin) (outSlot_of_isSlot hout hslot hv)
      (fun hx => Nat.not_lt.2 hroom (lt_mps_iff.1 hx)) (not_pos_of_eq_zero hpending) hrx h0 h)
  · rcases h with hin | habs | ⟨i, hslot, h⟩
    · exact finishRead_of_no_slot (s := s.begin) (outSlot_of_in hin)
    · exact finishRead_of_no_slot (s := s.begin) (outSlot_of_absent habs)
    · rcases outSlot_none_or_some (s := s.begin) hslot with hnone | hsome
      · exact finishRead_of_no_slot hnone
      · exact finishRead_of_not_ready hsome (h.imp lt_mps_iff.2 (.imp_left pos_of_ne_zero))

/-! ### WRITE (R128), case by case -/

section Write

variable {ep : Byte} {a x : Word} {s : State} {i : Fin 30}

theorem startWrite_of_no_slot (h : inSlot ep s = none) : startWrite ep a x s = .ok (s.answer false) := by
  rw [startWrite, h]

/-- The packet is too long, or the endpoint is stalled or busy. -/
theorem startWrite_of_not_ready (hslot : inSlot ep s = some i)
    (h : (s.ep i).mps.setWidth 32 < x ∨ flagsStalled (s.ep i).flags = true ∨ 0 < (s.ep i).pending) :
    startWrite ep a x s = .ok (s.answer false) := by
  rcases h with h | h | h
  · simp only [startWrite, hslot, if_pos h]
  · simp only [startWrite, hslot, if_pos h, ite_self]
  · simp only [startWrite, hslot, if_pos h, ite_self]

section Ready

variable (hslot : inSlot ep s = some i) (hfit : ¬(s.ep i).mps.setWidth 32 < x)
  (hstall : flagsStalled (s.ep i).flags = false) (hpending : ¬0 < (s.ep i).pending)

include hslot hfit hstall hpending

theorem startWrite_of_read {d : List Byte} (h : memRead a x s = .ok d) :
    startWrite ep a x s =
      .ok (((s.setEp i { s.ep i with pending := 1 }).emit (.endpointWrite ep d)).answer true) := by
  simp only [startWrite, hslot, if_neg hfit, if_neg (Bool.eq_false_iff.1 hstall), if_neg hpending, h]

theorem startWrite_of_missing {b : Breach} (h : memRead a x s = .error b) : startWrite ep a x s = .error b := by
  simp only [startWrite, hslot, if_neg hfit, if_neg (Bool.eq_false_iff.1 hstall), if_neg hpending, h]

end Ready

end Write

theorem memRead_of_readable {s : State} {a x : Word} (h : Readable s (.mem a) x.toNat) :
    ∃ d, memRead a x s = .ok d ∧ d.length = x.toNat ∧ BytesAt s (.mem a) d := by
  have hread := bufRead_of_readable x.isLt h
  rwa [BitVec.ofNat_toNat, BitVec.setWidth_eq] at hread

theorem memRead_of_unreadable {s : State} {a x : Word} (h : ¬Readable s (.mem a) x.toNat) :
    memRead a x s = .error (.bufferFault (.mem a) x) := by
  have hread := bufRead_of_unreadable x.isLt h
  rwa [BitVec.ofNat_toNat, BitVec.setWidth_eq] at hread

/-- Settles O56: the packet's bytes are read where they exist, and each other check of R128 refuses. -/
theorem writePacket : Obligations.WritePacket := by
  refine fun s ep a x => ⟨fun i hin hslot hv hstall hpending hfit h => ?_,
    fun i hin hslot hv hstall hpending hfit h => ?_, fun h => operation_of_ok ?_⟩
  · obtain ⟨d, hread, hlen, hbytes⟩ := memRead_of_readable (s := s.begin) h
    exact ⟨d, hlen, hbytes, operation_of_ok (startWrite_of_read (s := s.begin) (inSlot_of_isSlot hin hslot hv)
      (fun hx => Nat.not_lt.2 hfit (mps_lt_iff.1 hx)) hstall (not_pos_of_eq_zero hpending) hread)⟩
  · exact operation_of_error (startWrite_of_missing (s := s.begin) (inSlot_of_isSlot hin hslot hv)
      (fun hx => Nat.not_lt.2 hfit (mps_lt_iff.1 hx)) hstall (not_pos_of_eq_zero hpending)
      (memRead_of_unreadable (s := s.begin) h))
  · rcases h with hout | habs | ⟨i, hslot, h⟩
    · exact startWrite_of_no_slot (s := s.begin) (inSlot_of_not_in hout)
    · exact startWrite_of_no_slot (s := s.begin) (inSlot_of_absent habs)
    · rcases inSlot_none_or_some (s := s.begin) hslot with hnone | hsome
      · exact startWrite_of_no_slot hnone
      · exact startWrite_of_not_ready hsome (h.imp mps_lt_iff.2 (.imp_right pos_of_ne_zero))

/-! ### EV_OUT (R129) and EV_IN (R130), case by case -/

section Events

variable {ep : Byte} {d : List Byte} {s : State} {i : Fin 30}

theorem packetArrived_of_no_slot (h : outSlot ep s = none) : packetArrived ep d s = s := by
  rw [packetArrived, h]

theorem packetArrived_of_idle (hslot : outSlot ep s = some i) (h : ¬0 < (s.ep i).pending) :
    packetArrived ep d s = s := by
  simp only [packetArrived, hslot, if_neg h]

theorem packetArrived_of_pending (hslot : outSlot ep s = some i) (h : 0 < (s.ep i).pending) :
    packetArrived ep d s =
      (s.setEp i { s.ep i with pending := 0, rx := some d }).emit (.cbEndpoint (s.ep i).cb ep) := by
  simp only [packetArrived, hslot, if_pos h]

theorem packetSent_of_no_slot (h : inSlot ep s = none) : packetSent ep s = s := by
  rw [packetSent, h]

theorem packetSent_of_idle (hslot : inSlot ep s = some i) (h : ¬0 < (s.ep i).pending) : packetSent ep s = s := by
  simp only [packetSent, hslot, if_neg h]

theorem packetSent_of_pending (hslot : inSlot ep s = some i) (h : 0 < (s.ep i).pending) :
    packetSent ep s = (s.setEp i { s.ep i with pending := 0 }).emit (.cbEndpoint (s.ep i).cb ep) := by
  simp only [packetSent, hslot, if_pos h]

end Events

/-- Settles O57: the transfer that was pending is reported, and where none was the event is dropped. -/
theorem endpointEvents : Obligations.EndpointEvents := by
  refine fun s ep d => ⟨fun i hslot hv hpending => ⟨fun hout => ?_, fun hin => ?_⟩,
    fun h => plainOperation_of_eq ?_, fun h => plainOperation_of_eq ?_⟩
  · exact plainOperation_of_eq
      (packetArrived_of_pending (s := s.begin) (outSlot_of_isSlot hout hslot hv) (pos_of_ne_zero hpending))
  · exact plainOperation_of_eq
      (packetSent_of_pending (s := s.begin) (inSlot_of_isSlot hin hslot hv) (pos_of_ne_zero hpending))
  · rcases h with hin | habs | ⟨i, hslot, hidle⟩
    · exact packetArrived_of_no_slot (s := s.begin) (outSlot_of_in hin)
    · exact packetArrived_of_no_slot (s := s.begin) (outSlot_of_absent habs)
    · rcases outSlot_none_or_some (s := s.begin) hslot with hnone | hsome
      · exact packetArrived_of_no_slot hnone
      · exact packetArrived_of_idle hsome (not_pos_of_eq_zero hidle)
  · rcases h with hout | habs | ⟨i, hslot, hidle⟩
    · exact packetSent_of_no_slot (s := s.begin) (inSlot_of_not_in hout)
    · exact packetSent_of_no_slot (s := s.begin) (inSlot_of_absent habs)
    · rcases inSlot_none_or_some (s := s.begin) hslot with hnone | hsome
      · exact packetSent_of_no_slot hnone
      · exact packetSent_of_idle hsome (not_pos_of_eq_zero hidle)

/-! ### After a halt is cleared (R131) -/

theorem stalled_after_unstall (flags : Byte) : (flags &&& ~~~4#8).getLsbD 2 = false := by
  rw [BitVec.getLsbD_and]
  exact Bool.and_false _

/-- Settles O59: the stall had cancelled the transfer, so the unstalled record meets every check of the next command. -/
theorem clearHaltRestoresEndpoint : Obligations.ClearHaltRestoresEndpoint := by
  intro s t r i a x hidle hslot hlc hv hstalled hval hhigh hlen h
  obtain ⟨-, -, -, -, -, -, -, hswitch⟩ := featureIsSwitched s r
  obtain ⟨-, -, -, hhalt⟩ := hswitch i hval hhigh hslot
  have ht := Host.Outcome.next.inj (h.symm.trans (hhalt hlc hv hlen).2)
  have hrec : t.et[i.val] = { s.et[i.val] with flags := (s.et[i.val]).flags &&& ~~~4#8 } := by
    rw [ht]
    exact Vector.getElem_set_self ..
  have hvalid : (t.et[i.val]).valid = true := by rw [hrec]; exact hv
  have hclear : (t.et[i.val]).flags.getLsbD 2 = false := by rw [hrec]; exact stalled_after_unstall _
  have hpending : (t.et[i.val]).pending = 0 := by rw [hrec]; exact hidle i hstalled
  have hmps : (t.et[i.val]).mps = (s.et[i.val]).mps := by rw [hrec]
  refine ⟨by rw [ht]; exact List.mem_cons_self, hclear, hpending, fun hin hfit hread => ?_, fun hout => ?_⟩
  · have hread' : Readable t (.mem a) x.toNat := by rw [ht]; exact hread
    obtain ⟨hwrite, -, -⟩ := writePacket t (endpointOf r) a x
    obtain ⟨d, -, -, hnext⟩ := hwrite i hin hslot hvalid hclear hpending (hmps ▸ hfit) hread'
    exact ⟨_, hnext, rfl⟩
  · obtain ⟨hstart, -⟩ := readStart t (endpointOf r)
    exact ⟨_, hstart i hout hslot hvalid hclear hpending, rfl⟩

/-! ### What a command on another endpoint can answer (R119) -/

/-- From `s` to `t` at most the Endpoint Table, the memory, the PHY's answers, the outputs and the return value changed. -/
def TableFrame (s t : State) : Prop :=
  t = { s with
    et := t.et
    mem := t.mem
    phyAnswers := t.phyAnswers
    draws := t.draws
    out := t.out
    ret := t.ret }

/-- What command `i` can leave, from the start of its step: it succeeds within the table's frame and says so, or it fails and
does nothing but say so, or the PHY has refused the endpoint of an EP_ADD. -/
inductive Commanded (i : Instr) (s : State) : State → Prop where
  | succeeded {t : State} (hframe : TableFrame s t)
      (hret : t.ret = some (.bool true) ∨ ∃ n, t.ret = some (.sized true n)) : Commanded i s t
  | refused : Commanded i s (s.answer false)
  | refusedSized : Commanded i s (s.answerSized false 0)
  | phyRefused {ep : Byte} {m : Half} {ty : Byte} {c : Word} (hi : i = .epAdd ep m ty c) :
      Commanded i s ((s.phyAsked ep m ty).answer false)

section Commands

variable {i : Instr} {ep : Byte} {a x : Word} {s t : State}

theorem commanded_addEndpoint (ep : Byte) (m : Half) (ty : Byte) (c : Word) (s : State) :
    Commanded (.epAdd ep m ty c) s (addEndpoint ep m ty c s) := by
  cases hslot : epSlot ep with
  | none => rw [addEndpoint_of_no_slot hslot]; exact .refused
  | some j =>
    cases hty : typeAccepted ty
    · rw [addEndpoint_of_bad_type hty]; exact .refused
    cases hv : (s.ep j).valid
    · rw [addEndpoint_of_free hslot hty hv]
      split
      · exact .succeeded rfl (.inl rfl)
      · exact .phyRefused rfl
    · rw [addEndpoint_of_registered hslot hv]; exact .refused

theorem commanded_onRegistered {f : Fin 30 → State → State} (hf : ∀ j, TableFrame s (f j s)) :
    Commanded i s (onRegistered ep f s) := by
  cases hslot : registeredSlot ep s with
  | none => rw [onRegistered_of_none hslot]; exact .refused
  | some j =>
    rw [onRegistered_of_some hslot]
    exact .succeeded (congrArg (State.answer · true) (hf j)) (.inl rfl)

theorem tableFrame_removeEp (ep : Byte) (j : Fin 30) (s : State) : TableFrame s (removeEp ep j s) := by
  unfold removeEp
  split <;> rfl

theorem tableFrame_stallEp (ep : Byte) (j : Fin 30) (s : State) : TableFrame s (stallEp ep j s) := by
  unfold stallEp
  split <;> rfl

theorem commanded_startRead : Commanded i s (startRead ep s) := by
  cases hslot : outSlot ep s with
  | none => rw [startRead_of_no_slot hslot]; exact .refused
  | some j =>
    cases hstall : flagsStalled (s.ep j).flags
    · by_cases hpending : 0 < (s.ep j).pending
      · rw [startRead_of_pending hslot hpending]; exact .refused
      · rw [startRead_of_idle hslot hstall hpending]; exact .succeeded rfl (.inl rfl)
    · rw [startRead_of_stalled hslot hstall]; exact .refused

theorem commanded_finishRead (h : finishRead ep a x s = .ok t) : Commanded i s t := by
  cases hslot : outSlot ep s with
  | none => rw [finishRead_of_no_slot hslot] at h; cases h; exact .refusedSized
  | some j =>
    by_cases hready : x < (s.ep j).mps.setWidth 32 ∨ 0 < (s.ep j).pending ∨ (s.ep j).rx = none
    · rw [finishRead_of_not_ready hslot hready] at h; cases h; exact .refusedSized
    obtain ⟨hroom, hready⟩ := not_or.1 hready
    obtain ⟨hpending, hrx⟩ := not_or.1 hready
    obtain ⟨d, hrx⟩ := Option.ne_none_iff_exists'.1 hrx
    rcases memWrite_cases a (d.take x.toNat) s with ⟨hadm, -⟩ | ⟨h0, hadm, -⟩
    · rw [finishRead_of_admitted hslot hroom hpending hrx hadm] at h
      cases h
      exact .succeeded rfl (.inr ⟨_, rfl⟩)
    · rw [finishRead_of_missing hslot hroom hpending hrx h0 hadm] at h
      cases h

theorem commanded_startWrite (h : startWrite ep a x s = .ok t) : Commanded i s t := by
  cases hslot : inSlot ep s with
  | none => rw [startWrite_of_no_slot hslot] at h; cases h; exact .refused
  | some j =>
    by_cases hready : (s.ep j).mps.setWidth 32 < x ∨ flagsStalled (s.ep j).flags = true ∨ 0 < (s.ep j).pending
    · rw [startWrite_of_not_ready hslot hready] at h; cases h; exact .refused
    obtain ⟨hfit, hready⟩ := not_or.1 hready
    obtain ⟨hstall, hpending⟩ := not_or.1 hready
    have hclear := Bool.eq_false_iff.2 hstall
    cases hread : memRead a x s with
    | ok d =>
      rw [startWrite_of_read hslot hfit hclear hpending hread] at h
      cases h
      exact .succeeded rfl (.inl rfl)
    | error b => rw [startWrite_of_missing hslot hfit hclear hpending hread] at h; cases h

/-- Each of the seven commands succeeds, or fails and changes nothing. -/
theorem exec_commanded (hi : ReturnsValue i) (h : exec i s = .next t) : Commanded i s.begin t := by
  cases i
  case epAdd ep m ty c => rw [plainOperation_next h]; exact commanded_addEndpoint ep m ty c _
  case epRemove ep => cases h; exact commanded_onRegistered (f := removeEp ep) (tableFrame_removeEp ep · _)
  case epStall ep => cases h; exact commanded_onRegistered (f := stallEp ep) (tableFrame_stallEp ep · _)
  case epUnstall ep => cases h; exact commanded_onRegistered (f := unstallEp ep) fun _ => rfl
  case readStart ep => rw [plainOperation_next h]; exact commanded_startRead
  case readFinish ep a x => exact commanded_finishRead (operation_next h)
  case write ep a x => exact commanded_startWrite (operation_next h)
  all_goals cases hi

theorem tableFrame_of_commanded (h : Commanded i s t) : TableFrame s t := by
  cases h with
  | succeeded hframe => exact hframe
  | refused | refusedSized | phyRefused => rfl

theorem tableFrame_packetArrived (ep : Byte) (d : List Byte) (s : State) : TableFrame s (packetArrived ep d s) := by
  unfold packetArrived
  repeat' split
  all_goals rfl

theorem tableFrame_packetSent (ep : Byte) (s : State) : TableFrame s (packetSent ep s) := by
  unfold packetSent
  repeat' split
  all_goals rfl

/-- What runs on the other endpoints: the seven commands and the two events. -/
theorem onEndpoints_cases (hi : OnEndpoints i) :
    ReturnsValue i ∨ (∃ ep d, i = .evOut ep d) ∨ ∃ ep, i = .evIn ep := by
  cases i
  case evOut ep d => exact .inr (.inl ⟨ep, d, rfl⟩)
  case evIn ep => exact .inr (.inr ⟨ep, rfl⟩)
  case epAdd | epRemove | epStall | epUnstall | readStart | readFinish | write => exact .inl trivial
  all_goals cases hi

theorem exec_tableFrame (hi : OnEndpoints i) (h : exec i s = .next t) : TableFrame s.begin t := by
  rcases onEndpoints_cases hi with hcommand | ⟨ep, d, rfl⟩ | ⟨ep, rfl⟩
  · exact tableFrame_of_commanded (exec_commanded hcommand h)
  · rw [plainOperation_next h]; exact tableFrame_packetArrived ep d _
  · rw [plainOperation_next h]; exact tableFrame_packetSent ep _

end Commands

/-! ### What the control transfer leaves of the Endpoint Table (R169) -/

/-- What belongs to the other endpoints: their table, and the return value of their commands. -/
structure EndpointSide where
  et  : Vector EpRecord 30
  ret : Option Ret

/-- The endpoints' side of a state. An update of any other field keeps it by `rfl`. -/
def State.endpointSide (s : State) : EndpointSide where
  et  := s.et
  ret := s.ret

/-- The request `q`, with operands `r`, switched the halt of the endpoint it names: FLAGS and PENDING of that record, and
nothing else of the endpoints' side (R110). -/
def HaltSwitched (q : Instr) (r : RequestArgs) (s t : State) : Prop :=
  (q = .setFeatureEndpoint r ∨ q = .clearFeatureEndpoint r) ∧
  ∃ (j : Fin 30) (flags pending : Byte), IsSlot (endpointOf r) j ∧
    t.endpointSide = { s.endpointSide with
      et := s.et.set j.val { s.et[j.val] with flags := flags, pending := pending } }

section Sides

variable {s t : State}

theorem endpointSide_changeState (new : Lifecycle) (s : State) :
    (changeState new s).endpointSide = s.endpointSide := by
  rcases changeState_cases new s with ⟨-, e⟩ | ⟨-, -, e⟩ | ⟨-, -, e⟩ <;> rw [e] <;> rfl

theorem endpointSide_sendNext (h : sendNext s = .ok t) : t.endpointSide = s.endpointSide := by
  obtain ⟨d, -, -, rfl⟩ := sendNext_ok h
  rfl

theorem endpointSide_respondSend {dirIn : Bool} {wl : Half} {p : BufPtr} {size : Word} {notify : Bool}
    (h : respondSend dirIn wl p size notify s = .ok t) : t.endpointSide = s.endpointSide := by
  rcases respondSend_cases dirIn wl p size notify s with ⟨-, e⟩ | ⟨-, -, e⟩ <;> rw [e] at h
  · cases h; rfl
  · exact (endpointSide_sendNext h).trans rfl

theorem endpointSide_respondReceive (dirIn : Bool) (wl : Half) (p : BufPtr) (size : Word) (notify : Bool) (s : State) :
    (respondReceive dirIn wl p size notify s).endpointSide = s.endpointSide := by
  rcases respondReceive_cases dirIn wl p size notify s with e | ⟨-, -, -, e⟩ <;> rw [e] <;> rfl

theorem endpointSide_respondSuccess (wl : Half) (notify : Bool) (s : State) :
    (respondSuccess wl notify s).endpointSide = s.endpointSide := by
  rcases respondSuccess_cases wl notify s with ⟨-, e⟩ | ⟨-, e⟩ <;> rw [e] <;> rfl

theorem endpointSide_statusStart (s : State) : (statusStart s).endpointSide = s.endpointSide := by
  rcases statusStart_cases s with ⟨-, e⟩ | ⟨-, e⟩ <;> rw [e] <;> rfl

theorem endpointSide_dataStageDone (s : State) : (dataStageDone s).endpointSide = s.endpointSide := by
  rcases dataStageDone_cases s with ⟨-, e⟩ | ⟨-, e⟩ <;> rw [e]
  · rfl
  · exact endpointSide_statusStart s

theorem endpointSide_statusDone (s : State) : (statusDone s).endpointSide = s.endpointSide := by
  rcases statusDone_cases s with ⟨-, e⟩ | ⟨-, -, e⟩ | ⟨-, -, e⟩ <;> rw [e]
  · rfl
  · exact endpointSide_changeState _ _
  · exact endpointSide_changeState _ _

theorem endpointSide_inPacketSent (h : inPacketSent s = .ok t) : t.endpointSide = s.endpointSide := by
  unfold inPacketSent at h
  split at h
  · cases h; rfl
  dsimp only at h
  split at h
  · split at h
    · exact (endpointSide_sendNext h :)
    split at h <;> cases h
    · rfl
    · exact endpointSide_dataStageDone _
  · cases h; exact endpointSide_statusDone _
  · cases h; rfl
  · cases h; rfl

theorem endpointSide_takeDataPacket {d : List Byte} (h : takeDataPacket d s = .ok t) :
    t.endpointSide = s.endpointSide := by
  unfold takeDataPacket at h
  split at h
  · cases h
  · rename_i u hu
    obtain ⟨a, -, -, rfl⟩ := bufWrite_ok hu
    dsimp only at h
    split at h <;> cases h
    · exact endpointSide_dataStageDone _
    · rfl

theorem endpointSide_outPacketReceived {d : List Byte} (h : outPacketReceived d s = .ok t) :
    t.endpointSide = s.endpointSide := by
  unfold outPacketReceived at h
  split at h
  · cases h; rfl
  dsimp only at h
  split at h
  · split at h
    · cases h; rfl
    · exact (endpointSide_takeDataPacket h :)
  · split at h <;> cases h
    · rfl
    · exact endpointSide_statusDone _
  · cases h; rfl
  · cases h; rfl

theorem endpointSide_stallEp (ep : Byte) (j : Fin 30) (s : State) :
    (stallEp ep j s).endpointSide = { s.endpointSide with
      et := s.et.set j.val { s.et[j.val] with flags := flagsStall (s.et[j.val]).flags, pending := 0 } } := by
  unfold stallEp
  split <;> rfl

theorem isSlot_of_registeredSlot {ep : Byte} {j : Fin 30} (h : registeredSlot ep s = some j) : IsSlot ep j :=
  isSlot_of_epSlot (registeredSlot_some.1 h).1

/-- Of what a handler can do, the two switches of a halt alone reach the endpoints' side. -/
theorem endpointSide_of_handled {q : Instr} {r : RequestArgs} (h : Handled q r s (.ok t)) :
    t.endpointSide = s.endpointSide ∨ HaltSwitched q r s t := by
  generalize hx : (Except.ok t : Except Breach State) = y at h
  cases h with
  | reply | descriptor => exact .inl ((endpointSide_sendNext hx.symm).trans rfl)
  | halt j h0 hq hj =>
    cases hx
    exact .inr ⟨.inl hq, j, _, _, isSlot_of_registeredSlot hj, endpointSide_stallEp _ j s⟩
  | unhalt j h0 hq hj => cases hx; exact .inr ⟨.inr hq, j, _, _, isSlot_of_registeredSlot hj, rfl⟩
  | stall | wakeup | latch | configuration | interface => cases hx; exact .inl rfl

theorem endpointSide_handler {q : Instr} (hk : q.kind = .request) (h : handler q s = .ok t) :
    t.endpointSide = s.endpointSide ∨ ∃ r, HaltSwitched q r s t := by
  obtain ⟨r, hr⟩ := requestArgs_of_kind hk
  exact (endpointSide_of_handled (h ▸ handler_cases s hr)).imp_right fun hswitch => ⟨r, hswitch⟩

theorem endpointSide_stdDispatch (h : stdDispatch s = .ok t) :
    t.endpointSide = s.endpointSide ∨ ∃ q r, decodeRequest s.ctx.setup = some q ∧ HaltSwitched q r s t := by
  cases hd : decodeRequest s.ctx.setup with
  | none => rw [stdDispatch_of_none hd] at h; cases h; exact .inl rfl
  | some q =>
    rw [stdDispatch_of_request hd] at h
    exact (endpointSide_handler (decodeRequest_args hd).1 h).imp_right fun ⟨r, hswitch⟩ => ⟨q, r, rfl, hswitch⟩

/-- The class's answer to a request reaches the endpoints' side where it is awaited and leaves the request to a handler that
switches a halt. -/
theorem endpointSide_requestAnswered {result : RequestResult} {a x : Word} (h : requestAnswered result a x s = .ok t) :
    t.endpointSide = s.endpointSide ∨ (result = .passThrough ∧ s.ctx.awaiting = .request ∧
      ∃ q r, decodeRequest s.ctx.setup = some q ∧ HaltSwitched q r s t) := by
  by_cases hw : s.ctx.awaiting = .request
  case neg => rw [requestAnswered_of_stale hw] at h; cases h; exact .inl rfl
  cases result with
  | receive => rw [requestAnswered_receive hw] at h; cases h; exact .inl (endpointSide_respondReceive ..)
  | send => rw [requestAnswered_send hw] at h; exact .inl (endpointSide_respondSend h :)
  | success => rw [requestAnswered_success hw] at h; cases h; exact .inl (endpointSide_respondSuccess ..)
  | failure => rw [requestAnswered_failure hw] at h; cases h; exact .inl rfl
  | passThrough =>
    rw [requestAnswered_passThrough hw] at h
    exact (endpointSide_stdDispatch h).imp_right fun hswitch => ⟨rfl, hw, hswitch⟩

theorem endpointSide_transferAnswered (success : Bool) (s : State) :
    (transferAnswered success s).endpointSide = s.endpointSide := by
  unfold transferAnswered
  split
  · rfl
  split
  · rfl
  · exact endpointSide_statusStart _

theorem endpointSide_configurationSet (success : Bool) (s : State) :
    (configurationSet success s).endpointSide = s.endpointSide := by
  unfold configurationSet
  split
  · rfl
  split
  · rfl
  · dsimp only
    rw [endpointSide_respondSuccess]
    split <;> exact endpointSide_changeState _ _

theorem endpointSide_interfaceSet (success : Bool) (s : State) :
    (interfaceSet success s).endpointSide = s.endpointSide := by
  unfold interfaceSet
  split
  · rfl
  split
  · rfl
  · exact endpointSide_respondSuccess ..

theorem endpointSide_explicitAbort (s : State) : (explicitAbort s).endpointSide = s.endpointSide := by
  unfold explicitAbort
  split <;> rfl

theorem endpointSide_acquire (h : acquire s = .ok t) : t.endpointSide = s.endpointSide := by
  unfold acquire at h
  split at h <;> cases h
  rfl

theorem endpointSide_release (h : release s = .ok t) : t.endpointSide = s.endpointSide := by
  unfold release at h
  split at h <;> cases h
  rfl

theorem endpointSide_assertHeld {k : Context} (h : assertHeld k s = .ok t) : t.endpointSide = s.endpointSide := by
  unfold assertHeld at h
  split at h <;> cases h
  rfl

theorem endpointSide_execEvSof {f : BitVec 11} (h : execEvSof f s = .next t) :
    t.endpointSide = s.begin.endpointSide := by
  rw [plainOperation_next h]
  split <;> rfl

theorem endpointSide_execConnect (h : execConnect s = .next t) : t.endpointSide = s.begin.endpointSide := by
  rw [plainOperation_next h]
  split
  · exact endpointSide_changeState _ _
  · rfl

/-- An operation that is not on the other endpoints, and no bus reset, reaches their side only by a PassThrough of a request
that switches a halt. -/
theorem exec_endpointSide {i : Instr} (hi : ¬OnEndpoints i) (hk : i.kind = .operation) (hreset : i ≠ .evReset)
    (h : exec i s = .next t) :
    t.endpointSide = s.begin.endpointSide ∨
    ((∃ a x, i = .completeRequest .passThrough a x) ∧ s.ctx.awaiting = .request ∧
      ∃ q r, decodeRequest s.ctx.setup = some q ∧ HaltSwitched q r s.begin t) := by
  cases i
  case completeRequest result a x =>
    refine (endpointSide_requestAnswered (operation_next h)).imp_right fun ⟨hresult, hswitch⟩ => ⟨⟨a, x, ?_⟩, hswitch⟩
    rw [hresult]
  case evEp0In => exact .inl (endpointSide_inPacketSent (operation_next h))
  case evEp0Out => exact .inl (endpointSide_outPacketReceived (operation_next h))
  case lock => exact .inl (endpointSide_acquire (operation_next h))
  case unlock => exact .inl (endpointSide_release (operation_next h))
  case assertLocked => exact .inl (endpointSide_assertHeld (operation_next h))
  case evSof => exact .inl (endpointSide_execEvSof h)
  case connect => exact .inl (endpointSide_execConnect h)
  case evPower | evSuspend | evEp0Setup | sofEnable | sofDisable => cases h; exact .inl rfl
  case completeXferDone b => cases h; exact .inl (endpointSide_transferAnswered b _)
  case completeSetConfiguration b => cases h; exact .inl (endpointSide_configurationSet b _)
  case completeSetInterface b => cases h; exact .inl (endpointSide_interfaceSet b _)
  case abort => cases h; exact .inl (endpointSide_explicitAbort _)
  case evReset => exact absurd rfl hreset
  case evOut | evIn | epAdd | epRemove | epStall | epUnstall | readStart | readFinish | write => exact absurd trivial hi
  all_goals cases hk

/-- Where a halt was switched, the record that changed is the one the request names. -/
theorem haltSwitched_of_ne {q : Instr} {r : RequestArgs} {j : Fin 30} (h : HaltSwitched q r s t)
    (hne : t.et[j.val] ≠ s.et[j.val]) :
    (q = .setFeatureEndpoint r ∨ q = .clearFeatureEndpoint r) ∧ IsSlot (endpointOf r) j ∧
      ∃ flags pending, t.et[j.val] = { s.et[j.val] with flags := flags, pending := pending } := by
  obtain ⟨hq, k, flags, pending, hslot, hside⟩ := h
  have het : t.et = s.et.set k.val { s.et[k.val] with flags := flags, pending := pending } :=
    congrArg EndpointSide.et hside
  by_cases hkj : k = j
  · subst hkj
    exact ⟨hq, hslot, flags, pending, by rw [het]; exact Vector.getElem_set_self ..⟩
  · refine absurd ?_ hne
    rw [het]
    exact Vector.getElem_set_ne _ _ (Fin.val_ne_of_ne hkj)

/-- Settles O24: the frame of what runs on the other endpoints, and of everything else what reaches their side. -/
theorem controlAndTableAreApart : Obligations.ControlAndTableAreApart := by
  refine fun s t i h => ⟨fun hi => ?_, fun hi hk hreset j hne => ?_⟩
  · have hframe : t = _ := exec_tableFrame hi h
    rw [hframe]
    exact ⟨rfl, rfl, rfl, rfl, rfl, rfl, rfl, rfl, rfl⟩
  · rcases exec_endpointSide hi hk hreset h with hside | ⟨hpass, hw, q, r, hd, hswitch⟩
    · have het : t.et = s.et := congrArg EndpointSide.et hside
      exact absurd (by rw [het]) hne
    · obtain ⟨hq, hslot, hrecord⟩ := haltSwitched_of_ne hswitch hne
      have hdecoded := hq.imp (fun e => hd.trans (congrArg some e)) fun e => hd.trans (congrArg some e)
      exact ⟨hpass, hw, ⟨r, hdecoded, hslot⟩, hrecord⟩

/-! ### Commands that return false (R119) -/

theorem ret_of_haltSwitched {q : Instr} {r : RequestArgs} (h : HaltSwitched q r s t) : t.ret = s.ret := by
  obtain ⟨-, j, flags, pending, -, hside⟩ := h
  exact congrArg EndpointSide.ret hside

theorem packetArrived_ret (ep : Byte) (d : List Byte) (s : State) : (packetArrived ep d s).ret = s.ret := by
  unfold packetArrived
  repeat' split
  all_goals rfl

theorem packetSent_ret (ep : Byte) (s : State) : (packetSent ep s).ret = s.ret := by
  unfold packetSent
  repeat' split
  all_goals rfl

/-- Only the commands on the other endpoints return a value. -/
theorem exec_ret_of_no_value {i : Instr} (hi : ¬ReturnsValue i) (h : exec i s = .next t) : t.ret = none := by
  cases hk : i.kind with
  | request =>
    rw [exec_request i s hk] at h
    rcases endpointSide_handler hk (operation_next h) with hside | ⟨r, hswitch⟩
    · exact congrArg EndpointSide.ret hside
    · exact ret_of_haltSwitched hswitch
  | operation =>
    by_cases hreset : i = .evReset
    · subst hreset
      rw [plainOperation_next h]
      exact changeState_ret _ _
    by_cases hon : OnEndpoints i
    · rcases onEndpoints_cases hon with hcommand | ⟨ep, d, rfl⟩ | ⟨ep, rfl⟩
      · exact absurd hcommand hi
      · rw [plainOperation_next h]; exact packetArrived_ret ep d _
      · rw [plainOperation_next h]; exact packetSent_ret ep _
    · rcases exec_endpointSide hon hk hreset h with hside | ⟨-, -, q, r, -, hswitch⟩
      · exact congrArg EndpointSide.ret hside
      · exact ret_of_haltSwitched hswitch

end Sides

/-- Settles O58: what returns false is a command, and of what a command can do that leaves the refusals. -/
theorem falseReturnChangesNothing : Obligations.FalseReturnChangesNothing := by
  intro s t i h hfalse
  have hi : ReturnsValue i := by
    refine Classical.byContradiction fun hi => ?_
    rw [exec_ret_of_no_value hi h] at hfalse
    rcases hfalse with hret | hret <;> cases hret
  refine ⟨hi, ?_⟩
  cases exec_commanded hi h with
  | succeeded hframe hret =>
    rcases hret with hret | ⟨n, hret⟩ <;> rw [hret] at hfalse <;> rcases hfalse with e | e <;> cases e
  | refused | refusedSized => exact ⟨rfl, .inl rfl⟩
  | phyRefused hadd => exact ⟨rfl, .inr ⟨_, _, _, _, hadd, rfl⟩⟩

end Sys2Proof.Machine
end

section
/-! The statements of spec/44_lifecycle.md: power, suspend and frame events, the commands beside them, and the bus reset
(R134 to R140). -/

namespace Sys2Proof.Machine

open Sys2Proof.Claims

/-! ### A move of the lifecycle (R132) -/

/-- The device is moved to a lifecycle it is not in, and loses its selection there. -/
theorem moved_of_ne {new : Lifecycle} {s : State} (os : List Output) (h : s.lc ≠ new) (hc : new ≠ .configured) :
    moved new os s = emitting (os ++ [.cbStateChange new])
      { s with lc := new, configuration := 0, iface := 0, alternate := 0 } := by
  simp only [moved, if_neg h, if_neg hc]
  rfl

/-! ### CONNECT (R140) -/

theorem exec_connect (s : State) : exec .connect s =
    .next (if s.lc = .attached then moved .powered [.phyConnect] s else emitting [.phyConnect] s) := by
  rw [← changeState_emitting]
  rfl

/-! ### EV_SOF (R137) -/

theorem exec_evSof (f : BitVec 11) (s : State) :
    exec (.evSof f) s = .next (emitting (if s.sofEnabled then [.cbSof f] else []) s) := by
  refine plainOperation_of_eq ?_
  rw [begin_sofEnabled]
  cases s.sofEnabled <;> rfl

/-- Settles O27: only EV_SOF and CONNECT ask about the state before they act. -/
theorem powerFramesAndConnect : Obligations.PowerFramesAndConnect := by
  refine fun s b f => ⟨rfl, rfl, exec_evSof f s, rfl, rfl, fun h => ?_, fun h => ?_⟩
  · have hne : s.lc ≠ .powered := by rw [h]; exact Lifecycle.noConfusion
    rw [exec_connect, if_pos h, moved_of_ne [.phyConnect] hne Lifecycle.noConfusion]
    rfl
  · rw [exec_connect, if_neg h]

/-! ### EV_RESET (R134) -/

/-- What EV_RESET clears before it moves the lifecycle: the control transfer, the STALL, every endpoint's transfer, and the
address and power state. -/
def State.busCleared (s : State) : State :=
  { s with
    ctx := Ctx.reset
    ep0Stalled := false
    et := forgetAll s.et
    address := 0
    suspended := false
    remoteWakeup := false }

theorem exec_evReset (s : State) : exec .evReset s = .next (moved .default [.cbReset] s.busCleared) :=
  plainOperation_of_eq (changeState_emitting .default [.cbReset] s.busCleared)

theorem moved_et (new : Lifecycle) (os : List Output) (s : State) : (moved new os s).et = s.et := by
  rw [← changeState_emitting, changeState_et]
  rfl

/-- Settles O28: ChangeState leaves the table as the reset cleared it, record by record. -/
theorem busResetInEveryState : Obligations.BusReset := by
  intro s
  have htable : (moved .default [.cbReset] s.busCleared).et = forgetAll s.et := moved_et _ _ _
  refine ⟨_, exec_evReset s, fun i => ?_, ?_⟩
  · rw [htable]
    exact forgetTransfers_ep s i
  · rw [htable]
    rfl

end Sys2Proof.Machine
end

section
/-! The statements of spec/45_guard.md: the commands of the Concurrency Guard (R142 to R144). -/

namespace Sys2Proof.Machine

open Sys2Proof.Claims

section Commands

variable {s : State}

/-! ### LOCK (R142) -/

theorem exec_lock_of_room (h : s.lockDepth ≠ BitVec.allOnes 32) :
    exec .lock s = .next (quiet { s with lockDepth := s.lockDepth + 1 }) :=
  operation_of_ok (if_neg h)

theorem exec_lock_of_full (h : s.lockDepth = BitVec.allOnes 32) :
    exec .lock s = .fault (.guardOverflow .lock) :=
  operation_of_error (b := .guardOverflow) (if_pos h)

/-! ### UNLOCK (R143) -/

theorem exec_unlock_of_held (h : s.lockDepth ≠ 0) :
    exec .unlock s = .next (quiet { s with lockDepth := s.lockDepth - 1 }) :=
  operation_of_ok (if_neg h)

theorem exec_unlock_of_free (h : s.lockDepth = 0) : exec .unlock s = .fault (.unlockUnderflow .unlock) :=
  operation_of_error (b := .unlockUnderflow) (if_pos h)

/-! ### ASSERT_LOCKED (R144) -/

theorem exec_assertLocked_of_held {k : Context} (h : ¬(k = .thread ∧ s.lockDepth = 0)) :
    exec (.assertLocked k) s = .next (quiet s) :=
  operation_of_ok (if_neg h)

theorem exec_assertLocked_of_free (h : s.lockDepth = 0) :
    exec (.assertLocked .thread) s = .fault (.guardNotHeld (.assertLocked .thread)) :=
  operation_of_error (b := .guardNotHeld) (if_pos ⟨rfl, h⟩)

end Commands

/-- Settles O26: UNLOCK's two outcomes, and the frame of every other instruction. -/
theorem unlockReleasesOneLevel : Obligations.UnlockReleasesOneLevel :=
  ⟨fun _ => ⟨exec_unlock_of_held, exec_unlock_of_free⟩,
    fun _ _ _ h hLock hUnlock => exec_keeps_lockDepth (not_or.2 ⟨hLock, hUnlock⟩) h⟩

/-- The largest guard depth is the word of all ones. -/
theorem depth_eq_allOnes_iff {n : Word} : n = BitVec.allOnes 32 ↔ n.toNat = 2 ^ 32 - 1 := by
  rw [← BitVec.toNat_inj, BitVec.toNat_allOnes]

/-- Settles O60: LOCK faults at the largest depth alone, ASSERT_LOCKED for a thread at depth 0 alone. -/
theorem guardCommands : Obligations.GuardCommands := by
  intro s
  refine ⟨fun h => exec_lock_of_room fun hfull => ?_, fun h => exec_lock_of_full (depth_eq_allOnes_iff.2 h),
    fun h => exec_assertLocked_of_held fun hfree => h hfree.2, exec_assertLocked_of_free,
    exec_assertLocked_of_held fun hfree => Context.noConfusion hfree.1⟩
  exact Nat.ne_of_lt h (depth_eq_allOnes_iff.1 hfull)

end Sys2Proof.Machine
end

section
/-! The statements of spec/70_reset_and_hazards.md: when the bus address changes, and which step tells the PHY one (R167). -/

namespace Sys2Proof.Machine

open Sys2Proof.Claims Sys2Proof.Safety

/-! ### What every other step leaves of the address -/

/-- The bus address is `a`, and the step has told the PHY none. -/
def HoldsAddress (a : BitVec 7) (t : State) : Prop :=
  t.address = a ∧ ∀ b, .phySetAddress b ∉ t.out

section Held

variable {a : BitVec 7} {u t : State}

theorem holdsAddress_begin (s : State) : HoldsAddress s.address s.begin :=
  ⟨rfl, nofun⟩

theorem holdsAddress_emit {o : Output} (hu : HoldsAddress a u) (ho : ∀ b, o ≠ .phySetAddress b) :
    HoldsAddress a (u.emit o) := by
  refine ⟨hu.1, fun b hb => ?_⟩
  rcases List.mem_append.1 hb with hold | hnew
  · exact hu.2 b hold
  · exact ho b (List.mem_singleton.1 hnew).symm

/-- ChangeState's notification is no address. -/
theorem phySetAddress_mem_changeState {b : BitVec 7} (new : Lifecycle) (s : State) :
    .phySetAddress b ∈ (changeState new s).out ↔ .phySetAddress b ∈ s.out := by
  rcases changeState_cases new s with ⟨-, e⟩ | ⟨-, -, e⟩ | ⟨-, -, e⟩ <;> rw [e]
  · simp
  · simp

theorem holdsAddress_changeState (new : Lifecycle) (hu : HoldsAddress a u) : HoldsAddress a (changeState new u) :=
  ⟨(changeState_address new u).trans hu.1, fun b hb => hu.2 b ((phySetAddress_mem_changeState new u).1 hb)⟩

/-! ### The routines of the Control Transfer Engine -/

theorem holdsAddress_abortStall (c : StallCause) (hu : HoldsAddress a u) : HoldsAddress a (abortStall c u) :=
  holdsAddress_emit hu nofun

theorem holdsAddress_enterStatusIn (hu : HoldsAddress a u) : HoldsAddress a (enterStatusIn u) :=
  holdsAddress_emit hu nofun

theorem holdsAddress_statusStart (hu : HoldsAddress a u) : HoldsAddress a (statusStart u) := by
  rcases statusStart_cases u with ⟨-, e⟩ | ⟨-, e⟩ <;> rw [e]
  · exact holdsAddress_emit hu nofun
  · exact holdsAddress_enterStatusIn hu

theorem holdsAddress_dataStageDone (hu : HoldsAddress a u) : HoldsAddress a (dataStageDone u) := by
  rcases dataStageDone_cases u with ⟨-, e⟩ | ⟨-, e⟩ <;> rw [e]
  · exact holdsAddress_emit hu nofun
  · exact holdsAddress_statusStart hu

theorem holdsAddress_sendNext (h : sendNext u = .ok t) (hu : HoldsAddress a u) : HoldsAddress a t := by
  obtain ⟨d, -, -, rfl⟩ := sendNext_ok h
  exact holdsAddress_emit hu nofun

theorem holdsAddress_respondSend {dirIn : Bool} {wl : Half} {p : BufPtr} {size : Word} {notify : Bool}
    (h : respondSend dirIn wl p size notify u = .ok t) (hu : HoldsAddress a u) : HoldsAddress a t := by
  rcases respondSend_cases dirIn wl p size notify u with ⟨-, e⟩ | ⟨-, -, e⟩ <;> rw [e] at h
  · cases h; exact holdsAddress_abortStall _ hu
  · exact holdsAddress_sendNext h hu

theorem holdsAddress_respondReceive (dirIn : Bool) (wl : Half) (p : BufPtr) (size : Word) (notify : Bool)
    (hu : HoldsAddress a u) : HoldsAddress a (respondReceive dirIn wl p size notify u) := by
  rcases respondReceive_cases dirIn wl p size notify u with e | ⟨-, -, -, e⟩ <;> rw [e]
  · exact holdsAddress_abortStall _ hu
  · exact holdsAddress_emit hu nofun

theorem holdsAddress_respondSuccess (wl : Half) (notify : Bool) (hu : HoldsAddress a u) :
    HoldsAddress a (respondSuccess wl notify u) := by
  rcases respondSuccess_cases wl notify u with ⟨-, e⟩ | ⟨-, e⟩ <;> rw [e]
  · exact holdsAddress_abortStall _ hu
  · exact holdsAddress_enterStatusIn hu

/-! ### The class's answers, and the standard requests behind them -/

theorem holdsAddress_stallEp (ep : Byte) (i : Fin 30) (hu : HoldsAddress a u) : HoldsAddress a (stallEp ep i u) := by
  have hstall := holdsAddress_emit (o := .endpointStall ep) hu nofun
  unfold stallEp
  split
  · exact holdsAddress_emit hstall nofun
  · exact hstall

theorem holdsAddress_unstallEp (ep : Byte) (i : Fin 30) (hu : HoldsAddress a u) :
    HoldsAddress a (unstallEp ep i u) :=
  holdsAddress_emit hu nofun

/-- A handler latches an address at most: it is applied when the status stage is over (R111). -/
theorem holdsAddress_of_handled {q : Instr} {r : RequestArgs} (h : Handled q r u (.ok t)) (hu : HoldsAddress a u) :
    HoldsAddress a t := by
  generalize hx : (Except.ok t : Except Breach State) = x at h
  cases h with
  | stall c => cases hx; exact holdsAddress_abortStall c hu
  | reply | descriptor => exact holdsAddress_sendNext hx.symm hu
  | halt j => cases hx; exact holdsAddress_enterStatusIn (holdsAddress_stallEp _ j hu)
  | unhalt j => cases hx; exact holdsAddress_enterStatusIn (holdsAddress_unstallEp _ j hu)
  | wakeup | latch => cases hx; exact holdsAddress_enterStatusIn hu
  | configuration | interface => cases hx; exact holdsAddress_emit hu nofun

theorem holdsAddress_stdDispatch (h : stdDispatch u = .ok t) (hu : HoldsAddress a u) : HoldsAddress a t := by
  cases hd : decodeRequest u.ctx.setup with
  | none => rw [stdDispatch_of_none hd] at h; cases h; exact holdsAddress_abortStall _ hu
  | some q =>
    rw [stdDispatch_of_request hd] at h
    exact holdsAddress_of_handled (h ▸ handler_cases u (decodeRequest_args hd).2) hu

theorem holdsAddress_requestAnswered {result : RequestResult} {d x : Word} (h : requestAnswered result d x u = .ok t)
    (hu : HoldsAddress a u) : HoldsAddress a t := by
  by_cases hw : u.ctx.awaiting = .request
  case neg => rw [requestAnswered_of_stale hw] at h; cases h; exact hu
  cases result with
  | receive => rw [requestAnswered_receive hw] at h; cases h; exact holdsAddress_respondReceive _ _ _ _ _ hu
  | send => rw [requestAnswered_send hw] at h; exact holdsAddress_respondSend h hu
  | success => rw [requestAnswered_success hw] at h; cases h; exact holdsAddress_respondSuccess _ _ hu
  | failure => rw [requestAnswered_failure hw] at h; cases h; exact holdsAddress_abortStall _ hu
  | passThrough => rw [requestAnswered_passThrough hw] at h; exact holdsAddress_stdDispatch h hu

theorem holdsAddress_transferAnswered (b : Bool) (hu : HoldsAddress a u) : HoldsAddress a (transferAnswered b u) := by
  by_cases hw : u.ctx.awaiting = .xferDone
  case neg => rw [transferAnswered_of_stale hw]; exact hu
  cases b
  · rw [transferAnswered_false hw]; exact holdsAddress_abortStall _ hu
  · rw [transferAnswered_true hw]; exact holdsAddress_statusStart hu

theorem holdsAddress_configurationSet (b : Bool) (hu : HoldsAddress a u) : HoldsAddress a (configurationSet b u) := by
  by_cases hw : u.ctx.awaiting = .setConfiguration
  case neg => rw [configurationSet_of_stale hw]; exact hu
  cases b
  · rw [configurationSet_false hw]; exact holdsAddress_abortStall _ hu
  by_cases hc : u.ctx.setup.b2 = 0
  · rw [configurationSet_of_zero hw hc]
    exact holdsAddress_respondSuccess _ _ (holdsAddress_changeState _ hu)
  · rw [configurationSet_of_nonzero hw hc]
    exact holdsAddress_respondSuccess _ _ (holdsAddress_changeState _ hu)

theorem holdsAddress_interfaceSet (b : Bool) (hu : HoldsAddress a u) : HoldsAddress a (interfaceSet b u) := by
  by_cases hw : u.ctx.awaiting = .setInterface
  case neg => rw [interfaceSet_of_stale hw]; exact hu
  cases b
  · rw [interfaceSet_false hw]; exact holdsAddress_abortStall _ hu
  · rw [interfaceSet_true hw]; exact holdsAddress_respondSuccess _ _ hu

theorem holdsAddress_explicitAbort (hu : HoldsAddress a u) : HoldsAddress a (explicitAbort u) := by
  unfold explicitAbort
  split
  · exact hu
  · exact holdsAddress_abortStall _ hu

/-! ### The operations on the other endpoints -/

theorem holdsAddress_addEndpoint (ep : Byte) (m : Half) (ty : Byte) (c : Word) (hu : HoldsAddress a u) :
    HoldsAddress a (addEndpoint ep m ty c u) := by
  cases hslot : epSlot ep with
  | none => rw [addEndpoint_of_no_slot hslot]; exact hu
  | some j =>
    cases hty : typeAccepted ty
    · rw [addEndpoint_of_bad_type hty]; exact hu
    cases hv : (u.ep j).valid
    · rw [addEndpoint_of_free hslot hty hv]
      split <;> exact holdsAddress_emit hu nofun
    · rw [addEndpoint_of_registered hslot hv]; exact hu

theorem holdsAddress_onRegistered {f : Fin 30 → State → State} (ep : Byte)
    (hf : ∀ j, HoldsAddress a (f j u)) (hu : HoldsAddress a u) : HoldsAddress a (onRegistered ep f u) := by
  cases hslot : registeredSlot ep u with
  | none => rw [onRegistered_of_none hslot]; exact hu
  | some j => rw [onRegistered_of_some hslot]; exact hf j

theorem holdsAddress_removeEp (ep : Byte) (j : Fin 30) (hu : HoldsAddress a u) : HoldsAddress a (removeEp ep j u) := by
  unfold removeEp
  split
  · exact holdsAddress_emit (holdsAddress_emit (o := .endpointAbort ep) hu nofun) nofun
  · exact holdsAddress_emit hu nofun

theorem holdsAddress_startRead (ep : Byte) (hu : HoldsAddress a u) : HoldsAddress a (startRead ep u) := by
  unfold startRead
  repeat' split
  · exact hu
  · exact hu
  · exact hu
  · exact holdsAddress_emit hu nofun

theorem holdsAddress_startWrite {ep : Byte} {d x : Word} (h : startWrite ep d x u = .ok t) (hu : HoldsAddress a u) :
    HoldsAddress a t := by
  unfold startWrite at h
  repeat
    split at h
    · cases h; exact hu
  split at h <;> cases h
  exact holdsAddress_emit hu nofun

theorem holdsAddress_finishRead {ep : Byte} {d x : Word} (h : finishRead ep d x u = .ok t) (hu : HoldsAddress a u) :
    HoldsAddress a t := by
  unfold finishRead at h
  repeat
    split at h
    · cases h; exact hu
  split at h
  · cases h
  · rename_i v hv
    obtain ⟨b, -, -, rfl⟩ := bufWrite_ok (p := .mem d) hv
    cases h
    exact hu

theorem holdsAddress_packetArrived (ep : Byte) (d : List Byte) (hu : HoldsAddress a u) :
    HoldsAddress a (packetArrived ep d u) := by
  unfold packetArrived
  repeat' split
  · exact hu
  · exact holdsAddress_emit hu nofun
  · exact hu

theorem holdsAddress_packetSent (ep : Byte) (hu : HoldsAddress a u) : HoldsAddress a (packetSent ep u) := by
  unfold packetSent
  repeat' split
  · exact hu
  · exact holdsAddress_emit hu nofun
  · exact hu

/-- No operation on the other endpoints touches the address. -/
theorem exec_holdsAddress_of_onEndpoints {i : Instr} {s : State} (hi : OnEndpoints i) (h : exec i s = .next t) :
    HoldsAddress s.address t := by
  have h0 := holdsAddress_begin s
  cases i
  case epAdd ep m ty c => rw [plainOperation_next h]; exact holdsAddress_addEndpoint ep m ty c h0
  case epRemove ep =>
    rw [exec_epRemove] at h; cases h
    exact holdsAddress_onRegistered ep (fun j => holdsAddress_removeEp ep j h0) h0
  case epStall ep =>
    rw [exec_epStall] at h; cases h
    exact holdsAddress_onRegistered ep (fun j => holdsAddress_stallEp ep j h0) h0
  case epUnstall ep =>
    rw [exec_epUnstall] at h; cases h
    exact holdsAddress_onRegistered ep (fun j => holdsAddress_unstallEp ep j h0) h0
  case readStart ep => rw [plainOperation_next h]; exact holdsAddress_startRead ep h0
  case readFinish => exact holdsAddress_finishRead (operation_next h) h0
  case write => exact holdsAddress_startWrite (operation_next h) h0
  case evOut ep d => rw [plainOperation_next h]; exact holdsAddress_packetArrived ep d h0
  case evIn ep => rw [plainOperation_next h]; exact holdsAddress_packetSent ep h0
  all_goals cases hi

/-! ### The guard -/

theorem exec_lock_holdsAddress {s : State} (h : exec .lock s = .next t) : HoldsAddress s.address t := by
  by_cases hfull : s.lockDepth = BitVec.allOnes 32
  · rw [exec_lock_of_full hfull] at h; cases h
  · rw [exec_lock_of_room hfull] at h; cases h; exact holdsAddress_begin s

theorem exec_unlock_holdsAddress {s : State} (h : exec .unlock s = .next t) : HoldsAddress s.address t := by
  by_cases hfree : s.lockDepth = 0
  · rw [exec_unlock_of_free hfree] at h; cases h
  · rw [exec_unlock_of_held hfree] at h; cases h; exact holdsAddress_begin s

theorem exec_assertLocked_holdsAddress {k : Context} {s : State} (h : exec (.assertLocked k) s = .next t) :
    HoldsAddress s.address t := by
  by_cases hfree : k = .thread ∧ s.lockDepth = 0
  · obtain ⟨rfl, hfree⟩ := hfree
    rw [exec_assertLocked_of_free hfree] at h; cases h
  · rw [exec_assertLocked_of_held hfree] at h; cases h; exact holdsAddress_begin s

end Held

/-! ### Bus and power events, and CONNECT -/

theorem holdsAddress_moved {a : BitVec 7} {os : List Output} {s : State} (new : Lifecycle)
    (h : HoldsAddress a (emitting os s)) : HoldsAddress a (moved new os s) := by
  rw [← changeState_emitting]
  exact holdsAddress_changeState new h

theorem exec_connect_holdsAddress {s t : State} (h : exec .connect s = .next t) : HoldsAddress s.address t := by
  have hconnect : HoldsAddress s.address (emitting [.phyConnect] s) := holdsAddress_emit (holdsAddress_begin s) nofun
  rw [exec_connect] at h
  cases h
  split
  · exact holdsAddress_moved .powered hconnect
  · exact hconnect

theorem exec_evSof_holdsAddress {f : BitVec 11} {s t : State} (h : exec (.evSof f) s = .next t) :
    HoldsAddress s.address t := by
  rw [exec_evSof] at h
  cases h
  split
  · exact holdsAddress_emit (holdsAddress_begin s) nofun
  · exact holdsAddress_begin s

/-- The spec's decision D32: a bus reset makes the address 0, and tells the PHY nothing of it. -/
theorem exec_evReset_holdsAddress {s t : State} (h : exec .evReset s = .next t) : HoldsAddress 0 t := by
  rw [exec_evReset] at h
  cases h
  exact holdsAddress_moved .default (holdsAddress_emit (holdsAddress_begin s.busCleared) nofun)

/-! ### The end of the status stage (R96) -/

theorem holdsAddress_transferEnded {s : State} (hv : s.ctx.pendAddrValid = false) :
    HoldsAddress s.address (transferEnded s) := by
  rw [transferEnded, hv]
  exact holdsAddress_begin s

/-- A latched address becomes the bus address, and is the one told to the PHY. -/
theorem transferEnded_of_latched {s : State} (hv : s.ctx.pendAddrValid = true) :
    (transferEnded s).address = s.ctx.pendAddr ∧
      ∀ a, .phySetAddress a ∈ (transferEnded s).out ↔ a = s.ctx.pendAddr := by
  rw [transferEnded, if_pos hv, ← changeState_emitting]
  refine ⟨changeState_address _ _, fun a => (phySetAddress_mem_changeState _ _).trans ?_⟩
  simp [emitting]

/-- A latched address waits for a packet to the host, and at most one packet is outstanding (I5 of R47): while endpoint 0 is
armed, none is latched. -/
theorem pendAddrValid_of_armed {s : State} (hinv : RunInv s) (harmed : s.ctx.ep0OutArmed = true) :
    s.ctx.pendAddrValid = false := by
  cases hv : s.ctx.pendAddrValid
  · rfl
  · obtain ⟨-, hbusy, -⟩ := hinv.latchedInStatus hv
    exact absurd ⟨harmed, hbusy⟩ hinv.i5

/-! ### What a step does to the address -/

/-- The three things the step of `i` from `s` to `t` can do to the bus address. -/
inductive AddressStep (i : Instr) (s t : State) : Prop where
  /-- It leaves the address alone. -/
  | held (h : HoldsAddress s.address t)
  /-- It is the bus reset. -/
  | cleared (hi : i = .evReset) (h : HoldsAddress 0 t)
  /-- It reports the status packet of a SET_ADDRESS sent, and applies the address latched. -/
  | applied (hi : i = .evEp0In) (hstage : s.ctx.stage = .status) (hbusy : s.ctx.ep0InBusy = true)
      (hvalid : s.ctx.pendAddrValid = true) (haddr : t.address = s.ctx.pendAddr)
      (htold : ∀ a, .phySetAddress a ∈ t.out ↔ a = s.ctx.pendAddr)

section Steps

variable {s t : State}

theorem holdsAddress_stalledWith (c : Byte) (s : State) : HoldsAddress s.address (stalledWith c s) :=
  holdsAddress_emit (holdsAddress_begin s) nofun

theorem exec_evEp0In_addressStep (h : exec .evEp0In s = .next t) : AddressStep .evEp0In s t := by
  obtain ⟨hunexpected, hlast⟩ := inEventEndsStage s
  have hsent : inPacketSent s.begin = .ok t := operation_next h
  cases hb : s.ctx.ep0InBusy
  · rw [hunexpected (.inl hb)] at h; cases h
    exact .held (holdsAddress_stalledWith 10 s)
  cases hs : s.ctx.stage with
  | setup =>
    rw [hunexpected (.inr (.inl hs))] at h; cases h
    exact .held (holdsAddress_stalledWith 10 s)
  | dataOut =>
    rw [hunexpected (.inr (.inr hs))] at h; cases h
    exact .held (holdsAddress_stalledWith 10 s)
  | dataIn =>
    have h0 := holdsAddress_begin s
    rcases Nat.eq_zero_or_pos s.ctx.remaining.toNat with hr | hr
    · have hr : s.ctx.remaining = 0 := BitVec.eq_of_toNat_eq hr
      cases hz : s.ctx.zlp
      · rw [inPacketSent_of_last (s := s.begin) hb hs hr hz] at hsent; cases hsent
        exact .held (holdsAddress_dataStageDone h0)
      · rw [inPacketSent_of_zlp (s := s.begin) hb hs hr hz] at hsent; cases hsent
        exact .held (holdsAddress_emit h0 nofun)
    · rw [inPacketSent_of_remaining (s := s.begin) hb hs hr] at hsent
      exact .held (holdsAddress_sendNext hsent h0)
  | status =>
    obtain ⟨hends, -⟩ := statusStageEnds s hs
    rw [hends hb] at h; cases h
    cases hv : s.ctx.pendAddrValid
    · exact .held (holdsAddress_transferEnded hv)
    · obtain ⟨haddr, htold⟩ := transferEnded_of_latched hv
      exact .applied rfl hs hb hv haddr htold

theorem holdsAddress_takeDataPacket {a : BitVec 7} {d : List Byte} {u : State} (h : takeDataPacket d u = .ok t)
    (hu : HoldsAddress a u) : HoldsAddress a t := by
  unfold takeDataPacket at h
  split at h
  · cases h
  · rename_i v hv
    obtain ⟨b, -, -, rfl⟩ := bufWrite_ok hv
    dsimp only at h
    split at h <;> cases h
    · exact holdsAddress_dataStageDone hu
    · exact holdsAddress_emit hu nofun

/-- A packet from the host ends no SET_ADDRESS, whose status stage waits for one to the host. -/
theorem exec_evEp0Out_holdsAddress {d : List Byte} (hinv : RunInv s) (h : exec (.evEp0Out d) s = .next t) :
    HoldsAddress s.address t := by
  obtain ⟨hunexpected, -, hdata⟩ := outPacketChecks s d
  cases ha : s.ctx.ep0OutArmed
  · rw [hunexpected (.inl ha)] at h; cases h
    exact holdsAddress_stalledWith 10 s
  cases hs : s.ctx.stage with
  | setup =>
    rw [hunexpected (.inr (.inl hs))] at h; cases h
    exact holdsAddress_stalledWith 10 s
  | dataIn =>
    rw [hunexpected (.inr (.inr hs))] at h; cases h
    exact holdsAddress_stalledWith 10 s
  | dataOut =>
    by_cases hfit : PacketFits s d.length
    · have hstored := (outPacketReceived_of_fits (s := s.begin) ha hs hfit).symm.trans (operation_next h)
      exact holdsAddress_takeDataPacket hstored (holdsAddress_begin s)
    · rw [exec_evEp0Out_of_misfit ha hs hfit] at h; cases h
      exact holdsAddress_stalledWith 11 s
  | status =>
    by_cases hd : d = []
    · obtain ⟨-, hends⟩ := statusStageEnds s hs
      rw [hd, hends ha] at h; cases h
      exact holdsAddress_transferEnded (pendAddrValid_of_armed hinv ha)
    · rw [hdata ha hs hd] at h; cases h
      exact holdsAddress_stalledWith 11 s

theorem exec_addressStep {i : Instr} (hinv : RunInv s) (hk : i.kind = .operation) (h : exec i s = .next t) :
    AddressStep i s t := by
  have h0 := holdsAddress_begin s
  by_cases hi : OnEndpoints i
  · exact .held (exec_holdsAddress_of_onEndpoints hi h)
  cases i
  case evEp0In => exact exec_evEp0In_addressStep h
  case evEp0Out => exact .held (exec_evEp0Out_holdsAddress hinv h)
  case evReset => exact .cleared rfl (exec_evReset_holdsAddress h)
  case evSof => exact .held (exec_evSof_holdsAddress h)
  case connect => exact .held (exec_connect_holdsAddress h)
  case evSuspend => cases h; exact .held h0
  case evPower | evEp0Setup | sofEnable | sofDisable => cases h; exact .held (holdsAddress_emit h0 nofun)
  case completeRequest => exact .held (holdsAddress_requestAnswered (operation_next h) h0)
  case completeXferDone b => cases h; exact .held (holdsAddress_transferAnswered b h0)
  case completeSetConfiguration b => cases h; exact .held (holdsAddress_configurationSet b h0)
  case completeSetInterface b => cases h; exact .held (holdsAddress_interfaceSet b h0)
  case abort => cases h; exact .held (holdsAddress_explicitAbort h0)
  case lock => exact .held (exec_lock_holdsAddress h)
  case unlock => exact .held (exec_unlock_holdsAddress h)
  case assertLocked => exact .held (exec_assertLocked_holdsAddress h)
  case evOut | evIn | epAdd | epRemove | epStall | epUnstall | readStart | readFinish | write => exact absurd trivial hi
  all_goals cases hk

end Steps

/-- Settles O22, from the three things a step can do to the address. -/
theorem addressTiming : Obligations.AddressTiming := by
  intro s t i hinv hk h
  cases exec_addressStep hinv hk h with
  | held hheld =>
    obtain ⟨haddr, hnone⟩ := hheld
    exact ⟨fun hne => absurd haddr hne, fun a ha => absurd ha (hnone a)⟩
  | cleared hi hheld =>
    obtain ⟨haddr, hnone⟩ := hheld
    exact ⟨fun _ => .inl ⟨hi, haddr⟩, fun a ha => absurd ha (hnone a)⟩
  | applied hi hstage hbusy hvalid haddr htold =>
    refine ⟨fun _ => .inr ⟨_, (htold _).2 rfl⟩, fun a ha => ?_⟩
    have heq := (htold a).1 ha
    exact ⟨hi, hstage, hbusy, hvalid, heq, haddr.trans heq.symm⟩

end Sys2Proof.Machine
end

section
/-! The statements of spec/10_state.md on the unit reset (R46), and the slots of the Endpoint Table (R38, R73). -/

namespace Sys2Proof.Machine

open Sys2Proof.Safety Sys2Proof.Claims

/-! ### The slot of an endpoint address (R73) -/

theorem epSlot_eq_some_iff {ep : Byte} {i : Fin 30} : epSlot ep = some i ↔ IsSlot ep i :=
  ⟨isSlot_of_epSlot, epSlot_of_isSlot⟩

/-- An endpoint number of four bits and a direction bit give one of the 30 indices. -/
theorem epIndex_lt (ep : Byte) : epIndex ep < 30 := by
  have hnumber := (ep.extractLsb' 0 4).isLt
  have hdir := (ep.extractLsb' 7 1).isLt
  unfold epIndex
  omega

theorem epSlot_eq_none_iff {ep : Byte} : epSlot ep = none ↔ NoSlot ep := by
  refine ⟨fun h => validEp_eq_false_iff.1 (Bool.eq_false_iff.2 fun hv => ?_), epSlot_of_noSlot⟩
  rw [epSlot, dif_pos ⟨hv, epIndex_lt ep⟩] at h
  cases h

/-- The reserved bits, the number and the direction are all there is of an endpoint address. -/
theorem endpoint_bits (ep : Byte) :
    ep.toNat = (ep.extractLsb' 0 4).toNat + 16 * (ep.extractLsb' 4 3).toNat + 128 * (ep.extractLsb' 7 1).toNat := by
  have := ep.isLt
  simp only [BitVec.extractLsb'_toNat, Nat.shiftRight_eq_div_pow]
  omega

theorem isSlot_unique {ep ep' : Byte} {i : Fin 30} (h : IsSlot ep i) (h' : IsSlot ep' i) : ep' = ep := by
  obtain ⟨hreserved, hnumber, hi⟩ := h
  obtain ⟨hreserved', hnumber', hi'⟩ := h'
  have hbits := endpoint_bits ep
  have hbits' := endpoint_bits ep'
  rw [hreserved] at hbits
  rw [hreserved'] at hbits'
  have hdir := (ep.extractLsb' 7 1).isLt
  have hdir' := (ep'.extractLsb' 7 1).isLt
  have hpos : (ep.extractLsb' 0 4).toNat ≠ 0 := fun e => hnumber (BitVec.eq_of_toNat_eq e)
  have hpos' : (ep'.extractLsb' 0 4).toNat ≠ 0 := fun e => hnumber' (BitVec.eq_of_toNat_eq e)
  exact BitVec.eq_of_toNat_eq (by omega)

/-- The address of a slot: its endpoint number, and the direction bit of the odd slots. -/
def slotAddress (i : Fin 30) : Byte :=
  BitVec.ofNat 8 ((i.val + 2) / 2 + 128 * (i.val % 2))

theorem epSlot_slotAddress : ∀ i : Fin 30, epSlot (slotAddress i) = some i := by decide

/-- Settles O6: each slot has its address, and no other address has the slot's number and direction. -/
theorem endpointSlots : Obligations.EndpointSlots := by
  refine ⟨fun _ _ => epSlot_eq_some_iff, fun _ => epSlot_eq_none_iff, fun i => ⟨slotAddress i, epSlot_slotAddress i, ?_⟩,
    fun _ => Iff.rfl⟩
  exact fun ep' h => isSlot_unique (epSlot_eq_some_iff.1 (epSlot_slotAddress i)) (epSlot_eq_some_iff.1 h)

/-! ### The unit reset (R46, R160) -/

theorem reset_ep (i : Fin 30) : State.reset.ep i = EpRecord.empty :=
  Vector.getElem_replicate i.isLt

/-- Settles O11: the constants of the reset, and one record in every slot. -/
theorem unitReset : Obligations.UnitReset := by
  refine ⟨rfl, rfl, rfl, rfl, rfl, rfl, rfl, rfl, rfl, rfl, rfl, rfl, rfl, rfl, rfl, rfl, rfl, rfl, rfl, rfl, rfl, rfl,
    rfl, rfl, rfl, fun i => ?_⟩
  have hrecord : State.reset.et[i.val] = EpRecord.empty := reset_ep i
  rw [hrecord]
  exact ⟨rfl, rfl, rfl, rfl, rfl, rfl⟩

end Sys2Proof.Machine
end

section
/-! The records of the Endpoint Table from one step to the next (R38 to R44): what an instruction can do to a record, that
VALID lasts from EP_ADD to EP_REMOVE (R39), and what every record keeps (R42, R120, R131). -/

namespace Sys2Proof.Machine

open Sys2Proof.Safety Sys2Proof.Claims

/-! ### What an instruction can do to a record -/

/-- The record that an execution of `i`, which returns `ret`, leaves in slot `j` where `r` was. -/
inductive RecordStep (i : Instr) (ret : Option Ret) (j : Fin 30) (r : EpRecord) : EpRecord → Prop where
  | kept : RecordStep i ret j r r
  /-- EP_ADD registered the endpoint. -/
  | added {ep : Byte} {m : Half} {ty : Byte} {c : Word} (hi : i = .epAdd ep m ty c) (hslot : IsSlot ep j)
      (hty : typeAccepted ty = true) (hret : ret = some (.bool true)) : RecordStep i ret j r (.added m ty c)
  /-- EP_REMOVE took the endpoint away. -/
  | removed {ep : Byte} (hi : i = .epRemove ep) (hslot : IsSlot ep j) : RecordStep i ret j r .empty
  /-- The endpoint was stalled, and its transfer cancelled. -/
  | stalled (hv : r.valid = true) : RecordStep i ret j r { r with pending := 0, flags := flagsStall r.flags }
  /-- The endpoint was unstalled. -/
  | unstalled (hv : r.valid = true) : RecordStep i ret j r { r with flags := flagsUnstall r.flags }
  /-- A transfer began, on an endpoint that is not stalled, or it ended, or its packet was taken over. -/
  | moved (hv : r.valid = true) (pending : Byte) (rx : Option (List Byte))
      (hp : pending = 0 ∨ pending = r.pending ∨ pending = 1 ∧ flagsStalled r.flags = false) :
      RecordStep i ret j r { r with pending := pending, rx := rx }
  /-- The bus reset forgot the transfer. -/
  | forgotten : RecordStep i ret j r r.forget

/-- Every record of `t` is one that an execution of `i` in `s` can leave. -/
def TableStep (i : Instr) (s t : State) : Prop :=
  ∀ j : Fin 30, RecordStep i t.ret j (s.ep j) (t.ep j)

section Table

variable {i : Instr} {s t : State}

theorem tableStep_of_et_eq (h : t.et = s.et) : TableStep i s t := by
  intro j
  have hrecord : t.ep j = s.ep j := by simp only [State.ep, h]
  rw [hrecord]
  exact .kept

theorem tableStep_of_set {k : Fin 30} {r : EpRecord} (h : t.et = s.et.set k.val r) (hr : RecordStep i t.ret k (s.ep k) r) :
    TableStep i s t := by
  intro j
  have hrecord : t.ep j = (s.setEp k r).ep j := by simp only [State.ep, State.setEp, h]
  rw [hrecord]
  by_cases hkj : k = j
  · subst hkj
    rw [setEp_ep_self]
    exact hr
  · rw [setEp_ep_of_ne s k j r hkj]
    exact .kept

theorem tableStep_addEndpoint (ep : Byte) (m : Half) (ty : Byte) (c : Word) (s : State) :
    TableStep (.epAdd ep m ty c) s (addEndpoint ep m ty c s) := by
  cases hslot : epSlot ep with
  | none => rw [addEndpoint_of_no_slot hslot]; exact tableStep_of_et_eq rfl
  | some k =>
    cases hty : typeAccepted ty
    · rw [addEndpoint_of_bad_type hty]; exact tableStep_of_et_eq rfl
    cases hv : (s.ep k).valid
    · rw [addEndpoint_of_free hslot hty hv]
      split
      · exact tableStep_of_set rfl (.added rfl (isSlot_of_epSlot hslot) hty rfl)
      · exact tableStep_of_et_eq rfl
    · rw [addEndpoint_of_registered hslot hv]; exact tableStep_of_et_eq rfl

theorem tableStep_onRegistered {ep : Byte} {f : Fin 30 → State → State}
    (hf : ∀ k, registeredSlot ep s = some k → TableStep i s ((f k s).answer true)) :
    TableStep i s (onRegistered ep f s) := by
  cases hslot : registeredSlot ep s with
  | none => rw [onRegistered_of_none hslot]; exact tableStep_of_et_eq rfl
  | some k => rw [onRegistered_of_some hslot]; exact hf k hslot

theorem removeEp_et (ep : Byte) (k : Fin 30) (s : State) : (removeEp ep k s).et = s.et.set k.val .empty := by
  unfold removeEp
  split <;> rfl

theorem stallEp_et (ep : Byte) (k : Fin 30) (s : State) :
    (stallEp ep k s).et = s.et.set k.val { s.ep k with pending := 0, flags := flagsStall (s.ep k).flags } :=
  congrArg EndpointSide.et (endpointSide_stallEp ep k s)

theorem tableStep_startRead (ep : Byte) (s : State) : TableStep i s (startRead ep s) := by
  cases hslot : outSlot ep s with
  | none => rw [startRead_of_no_slot hslot]; exact tableStep_of_et_eq rfl
  | some k =>
    obtain ⟨-, -, hv⟩ := outSlot_some.1 hslot
    cases hstall : flagsStalled (s.ep k).flags
    · by_cases hpending : 0 < (s.ep k).pending
      · rw [startRead_of_pending hslot hpending]; exact tableStep_of_et_eq rfl
      · rw [startRead_of_idle hslot hstall hpending]
        exact tableStep_of_set rfl (.moved hv 1 none (.inr (.inr ⟨rfl, hstall⟩)))
    · rw [startRead_of_stalled hslot hstall]; exact tableStep_of_et_eq rfl

theorem tableStep_finishRead {ep : Byte} {a x : Word} (h : finishRead ep a x s = .ok t) : TableStep i s t := by
  cases hslot : outSlot ep s with
  | none => rw [finishRead_of_no_slot hslot] at h; cases h; exact tableStep_of_et_eq rfl
  | some k =>
    obtain ⟨-, -, hv⟩ := outSlot_some.1 hslot
    by_cases hready : x < (s.ep k).mps.setWidth 32 ∨ 0 < (s.ep k).pending ∨ (s.ep k).rx = none
    · rw [finishRead_of_not_ready hslot hready] at h; cases h; exact tableStep_of_et_eq rfl
    obtain ⟨hroom, hready⟩ := not_or.1 hready
    obtain ⟨hpending, hrx⟩ := not_or.1 hready
    obtain ⟨d, hrx⟩ := Option.ne_none_iff_exists'.1 hrx
    rcases memWrite_cases a (d.take x.toNat) s with ⟨hadm, -⟩ | ⟨h0, hadm, -⟩
    · rw [finishRead_of_admitted hslot hroom hpending hrx hadm] at h
      cases h
      exact tableStep_of_set rfl (.moved hv _ none (.inr (.inl rfl)))
    · rw [finishRead_of_missing hslot hroom hpending hrx h0 hadm] at h
      cases h

theorem tableStep_startWrite {ep : Byte} {a x : Word} (h : startWrite ep a x s = .ok t) : TableStep i s t := by
  cases hslot : inSlot ep s with
  | none => rw [startWrite_of_no_slot hslot] at h; cases h; exact tableStep_of_et_eq rfl
  | some k =>
    obtain ⟨-, -, hv⟩ := inSlot_some.1 hslot
    by_cases hready : (s.ep k).mps.setWidth 32 < x ∨ flagsStalled (s.ep k).flags = true ∨ 0 < (s.ep k).pending
    · rw [startWrite_of_not_ready hslot hready] at h; cases h; exact tableStep_of_et_eq rfl
    obtain ⟨hfit, hready⟩ := not_or.1 hready
    obtain ⟨hstall, hpending⟩ := not_or.1 hready
    have hclear := Bool.eq_false_iff.2 hstall
    cases hread : memRead a x s with
    | ok d =>
      rw [startWrite_of_read hslot hfit hclear hpending hread] at h
      cases h
      exact tableStep_of_set rfl (.moved hv 1 _ (.inr (.inr ⟨rfl, hclear⟩)))
    | error b => rw [startWrite_of_missing hslot hfit hclear hpending hread] at h; cases h

theorem tableStep_packetArrived (ep : Byte) (d : List Byte) (s : State) : TableStep i s (packetArrived ep d s) := by
  cases hslot : outSlot ep s with
  | none => rw [packetArrived_of_no_slot hslot]; exact tableStep_of_et_eq rfl
  | some k =>
    obtain ⟨-, -, hv⟩ := outSlot_some.1 hslot
    by_cases hpending : 0 < (s.ep k).pending
    · rw [packetArrived_of_pending hslot hpending]
      exact tableStep_of_set rfl (.moved hv 0 (some d) (.inl rfl))
    · rw [packetArrived_of_idle hslot hpending]; exact tableStep_of_et_eq rfl

theorem tableStep_packetSent (ep : Byte) (s : State) : TableStep i s (packetSent ep s) := by
  cases hslot : inSlot ep s with
  | none => rw [packetSent_of_no_slot hslot]; exact tableStep_of_et_eq rfl
  | some k =>
    obtain ⟨-, -, hv⟩ := inSlot_some.1 hslot
    by_cases hpending : 0 < (s.ep k).pending
    · rw [packetSent_of_pending hslot hpending]
      exact tableStep_of_set rfl (.moved hv 0 _ (.inl rfl))
    · rw [packetSent_of_idle hslot hpending]; exact tableStep_of_et_eq rfl

/-- A standard request reaches the table where it switches a registered endpoint's halt (R110). -/
theorem tableStep_of_handled {q : Instr} {r : RequestArgs} (h : Handled q r s (.ok t)) : TableStep i s t := by
  generalize hx : (Except.ok t : Except Breach State) = x at h
  cases h with
  | reply | descriptor =>
    exact tableStep_of_et_eq ((congrArg EndpointSide.et (endpointSide_sendNext hx.symm)).trans rfl)
  | halt k h0 hq hk =>
    cases hx
    exact tableStep_of_set (stallEp_et _ k s) (.stalled (registeredSlot_some.1 hk).2)
  | unhalt k h0 hq hk =>
    cases hx
    exact tableStep_of_set rfl (.unstalled (registeredSlot_some.1 hk).2)
  | stall | wakeup | latch | configuration | interface => cases hx; exact tableStep_of_et_eq rfl

theorem tableStep_stdDispatch (h : stdDispatch s = .ok t) : TableStep i s t := by
  cases hd : decodeRequest s.ctx.setup with
  | none => rw [stdDispatch_of_none hd] at h; cases h; exact tableStep_of_et_eq rfl
  | some q =>
    rw [stdDispatch_of_request hd] at h
    exact tableStep_of_handled (h ▸ handler_cases s (decodeRequest_args hd).2)

theorem tableStep_busReset (s : State) : TableStep i s (busReset s) := by
  intro j
  have hrecord : (busReset s).ep j = (s.ep j).forget := by
    simp only [busReset, changeState_ep, emit_ep]
    exact forgetTransfers_ep s j
  rw [hrecord]
  exact .forgotten

/-- What runs on the other endpoints. -/
theorem exec_tableStep_of_onEndpoints (hi : OnEndpoints i) (h : exec i s = .next t) : TableStep i s t := by
  cases i
  case epAdd ep m ty c => cases h; exact tableStep_addEndpoint ep m ty c _
  case epRemove ep =>
    cases h
    refine tableStep_onRegistered (f := removeEp ep) fun k hk => tableStep_of_set (removeEp_et ep k _) ?_
    exact .removed rfl (isSlot_of_registeredSlot hk)
  case epStall ep =>
    cases h
    refine tableStep_onRegistered (f := stallEp ep) fun k hk => tableStep_of_set (stallEp_et ep k _) ?_
    exact .stalled (registeredSlot_some.1 hk).2
  case epUnstall ep =>
    cases h
    exact tableStep_onRegistered (f := unstallEp ep) fun k hk =>
      tableStep_of_set rfl (.unstalled (registeredSlot_some.1 hk).2)
  case readStart ep => cases h; exact tableStep_startRead ep _
  case readFinish => exact (tableStep_finishRead (operation_next h) :)
  case write => exact (tableStep_startWrite (operation_next h) :)
  case evOut ep d => cases h; exact tableStep_packetArrived ep d _
  case evIn ep => cases h; exact tableStep_packetSent ep _
  all_goals cases hi

/-- The class's answer reaches the table where it leaves the request to the dispatcher. -/
theorem exec_tableStep_completeRequest {result : RequestResult} {a x : Word}
    (h : exec (.completeRequest result a x) s = .next t) : TableStep i s t := by
  have hbody := operation_next h
  rcases endpointSide_requestAnswered hbody with hside | ⟨rfl, hw, -⟩
  · exact tableStep_of_et_eq (congrArg EndpointSide.et hside)
  · rw [requestAnswered_passThrough hw] at hbody
    exact (tableStep_stdDispatch hbody :)

/-- Every instruction leaves each record as one of the cases says. -/
theorem exec_tableStep (h : exec i s = .next t) : TableStep i s t := by
  cases hk : i.kind with
  | request =>
    rw [exec_request i s hk] at h
    obtain ⟨r, hr⟩ := requestArgs_of_kind hk
    exact (tableStep_of_handled (operation_next h ▸ handler_cases s.begin hr) :)
  | operation =>
    by_cases hi : OnEndpoints i
    · exact exec_tableStep_of_onEndpoints hi h
    by_cases hreset : i = .evReset
    · subst hreset; cases h; exact tableStep_busReset _
    rcases exec_endpointSide hi hk hreset h with hside | ⟨⟨a, x, rfl⟩, -⟩
    · exact tableStep_of_et_eq (congrArg EndpointSide.et hside)
    · exact exec_tableStep_completeRequest h

end Table

/-! ### What every record keeps -/

/-- The flags of an accepted type: no bit but the type's, which is not 0 (R42, R74). -/
theorem flags_of_typeAccepted {ty : Byte} (h : typeAccepted ty = true) :
    ty.extractLsb' 3 5 = 0#5 ∧ flagsType ty ≠ 0 ∧ flagsStalled ty = false := by
  simp only [typeAccepted, Bool.or_eq_true, beq_iff_eq] at h
  rcases h with (rfl | rfl) | rfl <;> decide

theorem flagsStall_bits (flags : Byte) :
    (flagsStall flags).extractLsb' 3 5 = flags.extractLsb' 3 5 ∧ flagsType (flagsStall flags) = flagsType flags := by
  simp only [flagsStall, flagsType, BitVec.extractLsb'_or]
  exact ⟨BitVec.or_zero, BitVec.or_zero⟩

theorem flagsUnstall_bits (flags : Byte) :
    (flagsUnstall flags).extractLsb' 3 5 = flags.extractLsb' 3 5 ∧
      flagsType (flagsUnstall flags) = flagsType flags ∧ flagsStalled (flagsUnstall flags) = false := by
  simp only [flagsUnstall, flagsType, flagsStalled, BitVec.extractLsb'_and, BitVec.getLsbD_and]
  exact ⟨BitVec.and_allOnes, BitVec.and_allOnes, Bool.and_false _⟩

section Kept

variable {i : Instr} {s t : State}

/-- I7 of R47 holds from one step to the next. -/
theorem tableIdle_of_tableStep (hs : TableIdle s) (h : TableStep i s t) : TableIdle t := by
  intro j
  have hzero : (0 : Byte) ≤ 1 := by decide
  obtain ⟨hpending, hempty⟩ := hs j
  have hj := h j
  generalize t.ep j = r at hj
  cases hj with
  | kept => exact ⟨hpending, hempty⟩
  | added => exact ⟨hzero, nofun⟩
  | removed => exact ⟨hzero, fun _ => rfl⟩
  | stalled hv => exact ⟨hzero, fun hf => absurd hv (Bool.eq_false_iff.1 hf)⟩
  | unstalled hv => exact ⟨hpending, fun hf => absurd hv (Bool.eq_false_iff.1 hf)⟩
  | moved hv pending rx hp =>
    refine ⟨?_, fun hf => absurd hv (Bool.eq_false_iff.1 hf)⟩
    rcases hp with rfl | rfl | ⟨rfl, -⟩
    · exact hzero
    · exact hpending
    · exact (by decide : (1 : Byte) ≤ 1)
  | forgotten => exact ⟨hzero, fun hf => congrArg EpRecord.forget (hempty hf)⟩

theorem flagsWellFormed_of_tableStep (hs : FlagsWellFormed s) (h : TableStep i s t) : FlagsWellFormed t := by
  intro j
  obtain ⟨hbits, htype⟩ := hs j
  have hj := h j
  generalize t.ep j = r at hj
  cases hj with
  | kept | moved | forgotten => exact ⟨hbits, htype⟩
  | added hi hslot hty =>
    obtain ⟨hzero, hne, -⟩ := flags_of_typeAccepted hty
    exact ⟨hzero, fun _ => hne⟩
  | removed => exact ⟨rfl, nofun⟩
  | stalled hv =>
    obtain ⟨hsame, htypes⟩ := flagsStall_bits (s.ep j).flags
    exact ⟨hsame.trans hbits, fun _ => htypes ▸ htype hv⟩
  | unstalled hv =>
    obtain ⟨hsame, htypes, -⟩ := flagsUnstall_bits (s.ep j).flags
    exact ⟨hsame.trans hbits, fun _ => htypes ▸ htype hv⟩

theorem stalledIdle_of_tableStep (hs : StalledIdle s) (h : TableStep i s t) : StalledIdle t := by
  intro j
  have hidle := hs j
  have hj := h j
  generalize t.ep j = r at hj
  cases hj with
  | kept => exact hidle
  | added hi hslot hty => exact fun _ => rfl
  | removed | stalled | forgotten => exact fun _ => rfl
  | unstalled hv =>
    obtain ⟨-, -, hclear⟩ := flagsUnstall_bits (s.ep j).flags
    exact fun hf => absurd hf (Bool.eq_false_iff.1 hclear)
  | moved hv pending rx hp =>
    intro hf
    rcases hp with rfl | rfl | ⟨-, hclear⟩
    · rfl
    · exact hidle hf
    · exact absurd hf (Bool.eq_false_iff.1 hclear)

end Kept

/-! ### From EP_ADD to EP_REMOVE (R39) -/

section Valid

variable {i : Instr} {s t : State} {j : Fin 30} {ep : Byte}

/-- Only an EP_ADD that returned true registers an endpoint. -/
theorem added_of_valid (hfree : (s.ep j).valid = false) (h : RecordStep i t.ret j (s.ep j) (t.ep j))
    (hv : (t.ep j).valid = true) : ∃ ep m ty c, i = .epAdd ep m ty c ∧ IsSlot ep j ∧ t.ret = some (.bool true) := by
  generalize t.ep j = r at h hv
  cases h with
  | added hi hslot hty hret => exact ⟨_, _, _, _, hi, hslot, hret⟩
  | removed => cases hv
  | kept | stalled | unstalled | moved | forgotten => exact absurd hv (Bool.eq_false_iff.1 hfree)

/-- Only an EP_REMOVE of the endpoint unregisters it. -/
theorem removed_of_unregistered (hreg : (s.ep j).valid = true) (h : RecordStep i t.ret j (s.ep j) (t.ep j))
    (hv : (t.ep j).valid = false) : ∃ ep, i = .epRemove ep ∧ IsSlot ep j := by
  generalize t.ep j = r at h hv
  cases h with
  | removed hi hslot => exact ⟨_, hi, hslot⟩
  | added => cases hv
  | kept | stalled | unstalled | moved | forgotten => exact absurd hreg (Bool.eq_false_iff.1 hv)

/-- A record that is not VALID stays at its reset values, and one that loses VALID goes to them. -/
theorem unregistered_of_recordStep (hempty : (s.ep j).valid = false → s.ep j = .empty)
    (h : RecordStep i t.ret j (s.ep j) (t.ep j)) (hv : (t.ep j).valid = false) : t.ep j = .empty := by
  generalize t.ep j = r at h hv
  cases h with
  | kept => exact hempty hv
  | added => cases hv
  | removed => rfl
  | stalled hreg | unstalled hreg | moved hreg => exact absurd hreg (Bool.eq_false_iff.1 hv)
  | forgotten => exact congrArg EpRecord.forget (hempty hv)

/-- An EP_ADD of a free slot that returned true has installed the record. -/
theorem valid_of_epAdd {m : Half} {ty : Byte} {c : Word} (hslot : IsSlot ep j) (hfree : (s.et[j.val]).valid = false)
    (h : exec (.epAdd ep m ty c) s = .next t) (hret : t.ret = some (.bool true)) : (t.et[j.val]).valid = true := by
  obtain ⟨hasked, hrefused⟩ := endpointAdd s ep m ty c
  by_cases hty : ty.toNat = 1 ∨ ty.toNat = 2 ∨ ty.toNat = 3
  · rw [hasked j hslot hty hfree] at h
    cases h
    cases hok : phyAddOk s
    · rw [hok] at hret; cases hret
    · simp [answering, withEp]
  · rw [hrefused (.inr (.inl hty))] at h
    cases h
    cases hret

theorem unregistered_of_epRemove (hslot : IsSlot ep j) (hreg : (s.et[j.val]).valid = true)
    (h : exec (.epRemove ep) s = .next t) : (t.et[j.val]).valid = false := by
  obtain ⟨hremoved, -⟩ := endpointRemoveAndStall s ep
  rw [(hremoved j hslot hreg).1] at h
  cases h
  simp [answering, withEp]

/-- The commands on an endpoint that is not there return false. -/
theorem ret_of_absent (habsent : Absent ep s) (h : exec i s = .next t) :
    (i = .epRemove ep ∨ i = .epStall ep ∨ i = .epUnstall ep ∨ i = .readStart ep ∨ (∃ a x, i = .write ep a x) →
      t.ret = some (.bool false)) ∧
    ((∃ a x, i = .readFinish ep a x) → t.ret = some (.sized false 0)) := by
  obtain ⟨-, hremove⟩ := endpointRemoveAndStall s ep
  obtain ⟨hremove, hstall⟩ := hremove habsent
  obtain ⟨-, hunstall⟩ := endpointUnstall s ep
  obtain ⟨-, hstart⟩ := readStart s ep
  constructor
  · rintro (rfl | rfl | rfl | rfl | ⟨a, x, rfl⟩)
    · rw [hremove] at h; cases h; rfl
    · rw [hstall] at h; cases h; rfl
    · rw [hunstall habsent] at h; cases h; rfl
    · rw [hstart (.inr (.inl habsent))] at h; cases h; rfl
    · obtain ⟨-, -, hwrite⟩ := writePacket s ep a x
      rw [hwrite (.inr (.inl habsent))] at h; cases h; rfl
  · rintro ⟨a, x, rfl⟩
    have hbody := operation_next h
    rw [finishRead_of_no_slot (s := s.begin) (outSlot_of_absent habsent)] at hbody
    cases hbody; rfl

end Valid

/-- Settles O50: who can set and clear VALID, that the two commands do, and the refusals of the others. -/
theorem validFromAddToRemove : Obligations.ValidFromAddToRemove := by
  refine ⟨reset_ep, fun s t i j h => ⟨fun hfree => ⟨?_, ?_⟩, fun hreg => ⟨?_, ?_⟩, ?_, fun ep hslot hfree => ?_⟩⟩
  · exact added_of_valid hfree (exec_tableStep h j)
  · rintro ⟨ep, m, ty, c, rfl, hslot, hret⟩
    exact valid_of_epAdd hslot hfree h hret
  · exact removed_of_unregistered hreg (exec_tableStep h j)
  · rintro ⟨ep, rfl, hslot⟩
    exact unregistered_of_epRemove hslot hreg h
  · exact fun hempty => unregistered_of_recordStep hempty (exec_tableStep h j)
  · exact ret_of_absent (.inr ⟨j, hslot, hfree⟩) h

end Sys2Proof.Machine
end

section
/-! What an operation can do to the control transfer and to the lifecycle, said once: the moves of CTX (R87), the moves of
the device (R133), and the STALLs with their reasons (R145). The whole-machine statements are read off from it. -/

namespace Sys2Proof.Machine

open Sys2Proof.Safety Sys2Proof.Claims

/-! ### Outputs -/

/-- Neither the STALL of endpoint 0 nor a notification of the lifecycle. -/
def Output.plain : Output → Prop
  | .ep0Stall | .cbStateChange _ => False
  | _ => True

/-- The outputs are plain, one and all. -/
def Plain (os : List Output) : Prop :=
  ∀ o ∈ os, o.plain

@[simp] theorem plain_nil : Plain [] := nofun

@[simp] theorem plain_cons {o : Output} {os : List Output} : Plain (o :: os) ↔ o.plain ∧ Plain os :=
  List.forall_mem_cons

@[simp] theorem plain_append {os os' : List Output} : Plain (os ++ os') ↔ Plain os ∧ Plain os' :=
  List.forall_mem_append

theorem plain_singleton {o : Output} (h : o.plain) : Plain [o] :=
  plain_cons.2 ⟨h, plain_nil⟩

theorem ep0Stall_notMem_of_plain {os : List Output} (h : Plain os) : .ep0Stall ∉ os :=
  fun hmem => h _ hmem

theorem cbStateChange_notMem_of_plain {os : List Output} (h : Plain os) (lc : Lifecycle) : .cbStateChange lc ∉ os :=
  fun hmem => h _ hmem

section PlainBodies

variable {s t : State}

theorem plain_addEndpoint (ep : Byte) (m : Half) (ty : Byte) (c : Word) (hs : Plain s.out) :
    Plain (addEndpoint ep m ty c s).out := by
  unfold addEndpoint
  repeat' split
  all_goals simpa [Output.plain] using hs

theorem plain_onRegistered {ep : Byte} {f : Fin 30 → State → State} (hf : ∀ k, Plain (f k s).out)
    (hs : Plain s.out) : Plain (onRegistered ep f s).out := by
  unfold onRegistered
  split
  · exact hs
  · exact hf _

theorem plain_removeEp (ep : Byte) (k : Fin 30) (hs : Plain s.out) : Plain (removeEp ep k s).out := by
  unfold removeEp
  split <;> simpa [Output.plain] using hs

theorem plain_stallEp (ep : Byte) (k : Fin 30) (hs : Plain s.out) : Plain (stallEp ep k s).out := by
  unfold stallEp
  dsimp only
  split <;> simpa [Output.plain] using hs

theorem plain_unstallEp (ep : Byte) (k : Fin 30) (hs : Plain s.out) : Plain (unstallEp ep k s).out := by
  unfold unstallEp
  simpa [Output.plain] using hs

theorem plain_startRead (ep : Byte) (hs : Plain s.out) : Plain (startRead ep s).out := by
  unfold startRead
  repeat' split
  all_goals simpa [Output.plain] using hs

theorem plain_finishRead {ep : Byte} {a x : Word} (h : finishRead ep a x s = .ok t) (hs : Plain s.out) :
    Plain t.out := by
  unfold finishRead at h
  repeat
    split at h
    · cases h; exact hs
  split at h
  · cases h
  · rename_i u hu
    obtain ⟨b, -, -, rfl⟩ := bufWrite_ok (p := .mem a) hu
    cases h
    exact hs

theorem plain_startWrite {ep : Byte} {a x : Word} (h : startWrite ep a x s = .ok t) (hs : Plain s.out) :
    Plain t.out := by
  unfold startWrite at h
  repeat
    split at h
    · cases h; exact hs
  split at h <;> cases h
  simpa [Output.plain] using hs

theorem plain_packetArrived (ep : Byte) (d : List Byte) (hs : Plain s.out) : Plain (packetArrived ep d s).out := by
  unfold packetArrived
  repeat' split
  all_goals simpa [Output.plain] using hs

theorem plain_packetSent (ep : Byte) (hs : Plain s.out) : Plain (packetSent ep s).out := by
  unfold packetSent
  repeat' split
  all_goals simpa [Output.plain] using hs

theorem exec_plain_of_onEndpoints {i : Instr} (hi : OnEndpoints i) (h : exec i s = .next t) : Plain t.out := by
  have h0 : Plain s.begin.out := plain_nil
  cases i
  case epAdd ep m ty c => cases h; exact plain_addEndpoint ep m ty c h0
  case epRemove ep => cases h; exact plain_onRegistered (f := removeEp ep) (plain_removeEp ep · h0) h0
  case epStall ep => cases h; exact plain_onRegistered (f := stallEp ep) (plain_stallEp ep · h0) h0
  case epUnstall ep => cases h; exact plain_onRegistered (f := unstallEp ep) (plain_unstallEp ep · h0) h0
  case readStart ep => cases h; exact plain_startRead ep h0
  case readFinish => exact plain_finishRead (operation_next h) h0
  case write => exact plain_startWrite (operation_next h) h0
  case evOut ep d => cases h; exact plain_packetArrived ep d h0
  case evIn ep => cases h; exact plain_packetSent ep h0
  all_goals cases hi

end PlainBodies

/-! ### The moves of CTX (R87) -/

/-- `n` bytes may be read through a pointer into memory, or into REPLY where that many are left (R55). -/
def PointerRoom (p : BufPtr) (n : Word) : Prop :=
  (∃ a, p = .mem a) ∨ ∃ o, p = .reply o ∧ o.toNat + n.toNat ≤ 2

/-- A request was answered with Send, and the first packet of an IN data stage of `total` bytes, `n` of them, was handed to
the PHY (R91, R93). -/
def Ctx.sending (p : BufPtr) (total n : Word) (notify zlp : Bool) (c : Ctx) : Ctx :=
  { c with
    ptr := p.advance n
    remaining := total - n
    direction := .send
    notify := notify
    zlp := zlp
    stage := .dataIn
    ep0InBusy := true }

/-- The status stage begins opposite to the data stage (R94). -/
def Ctx.statusStarted (c : Ctx) : Ctx :=
  if c.direction = .send then { c with stage := .status, ep0OutArmed := true }
  else { c with stage := .status, ep0InBusy := true }

/-- The answers of the class that begin the status stage of a request with no data stage (R91). -/
inductive Resolves : Instr → State → Prop where
  | success {s : State} (a x : Word) (hw : s.ctx.awaiting = .request) (h0 : s.ctx.setup.wLength = 0) :
      Resolves (.completeRequest .success a x) s
  | passThrough {s : State} (a x : Word) (hw : s.ctx.awaiting = .request) (h0 : s.ctx.setup.wLength = 0) :
      Resolves (.completeRequest .passThrough a x) s
  | configuration {s : State} (hw : s.ctx.awaiting = .setConfiguration) : Resolves (.completeSetConfiguration true) s
  | interface {s : State} (hw : s.ctx.awaiting = .setInterface) : Resolves (.completeSetInterface true) s

/-- The events that end a data stage (R95), and what each leaves of CTX before anything follows. -/
inductive EndsData : Instr → State → Ctx → Prop where
  | sent {s : State} (hb : s.ctx.ep0InBusy = true) (hs : s.ctx.stage = .dataIn) (hr : s.ctx.remaining = 0)
      (hz : s.ctx.zlp = false) : EndsData .evEp0In s { s.ctx with ep0InBusy := false }
  | received {s : State} {d : List Byte} (a : Word) (ha : s.ctx.ep0OutArmed = true) (hs : s.ctx.stage = .dataOut)
      (hfit : PacketFits s d.length) (hlast : s.ctx.remaining.toNat = d.length) :
      EndsData (.evEp0Out d) s { s.ctx with ptr := .mem a, remaining := 0, ep0OutArmed := false }

/-- The events that end a status stage (R96). -/
def EndsStatus (i : Instr) (s : State) : Prop :=
  i = .evEp0In ∧ s.ctx.ep0InBusy = true ∨ i = .evEp0Out [] ∧ s.ctx.ep0OutArmed = true

/-- What an execution of `i` in `s` that does not STALL can make of CTX. -/
inductive CtxMove (i : Instr) (s : State) : Ctx → Prop where
  | kept : CtxMove i s s.ctx
  /-- A setup packet was taken (R97). -/
  | taken {p : SetupPacket} (hi : i = .evEp0Setup p) :
      CtxMove i s { Ctx.reset with setup := p, deferred := true, awaiting := .request }
  /-- The bus was reset (R134). -/
  | busReset (hi : i = .evReset) : CtxMove i s Ctx.reset
  /-- The dispatcher has handed a change of the selection to the class (R114, R117). -/
  | asked {a x : Word} {w : Awaiting} (hi : i = .completeRequest .passThrough a x) (hw : s.ctx.awaiting = .request)
      (h0 : s.ctx.setup.wLength = 0) (hask : w = .setConfiguration ∧ Addressed s ∨ w = .setInterface) :
      CtxMove i s { s.ctx with awaiting := w, deferred := false }
  /-- An IN data stage began (R91). -/
  | sendBegun {result : RequestResult} {a x : Word} {p : BufPtr} {total n : Word} {notify zlp deferred : Bool}
      {reply : Reply} (hi : i = .completeRequest result a x) (hresult : result = .send ∨ result = .passThrough)
      (hw : s.ctx.awaiting = .request) (hdir : s.ctx.setup.dirIn = true) (hwl : s.ctx.setup.wLength ≠ 0)
      (hroom : PointerRoom p total) (hn : n ≤ total) (hfit : total ≤ s.ctx.setup.wLength.setWidth 32) :
      CtxMove i s ({ s.ctx with awaiting := .none, deferred := deferred, reply := reply }.sending p total n notify zlp)
  /-- An OUT data stage began (R91). -/
  | receiveBegun {a x : Word} (hi : i = .completeRequest .receive a x) (hw : s.ctx.awaiting = .request)
      (hdir : s.ctx.setup.dirIn = false) (hwl : s.ctx.setup.wLength ≠ 0) (hroom : s.ctx.setup.wLength.toNat ≤ x.toNat) :
      CtxMove i s { s.ctx with
        awaiting := .none
        ptr := .mem a
        remaining := s.ctx.setup.wLength.setWidth 32
        direction := .receive
        notify := true
        stage := .dataOut
        ep0OutArmed := true }
  /-- The status stage of a request with no data stage began, and an address may have been latched (R91, R111). -/
  | resolved {notify deferred valid : Bool} {a : BitVec 7} (hi : Resolves i s)
      (hvalid : valid = s.ctx.pendAddrValid ∨ s.lc = .default ∨ s.lc = .address) :
      CtxMove i s { s.ctx with
        awaiting := .none
        deferred := deferred
        notify := notify
        direction := .none
        pendAddrValid := valid
        pendAddr := a
        stage := .status
        ep0InBusy := true }
  /-- The next packet of an IN data stage was handed to the PHY, `n` bytes of it (R98). -/
  | nextSent {n : Word} (hi : i = .evEp0In) (hb : s.ctx.ep0InBusy = true) (hs : s.ctx.stage = .dataIn)
      (hn : n ≤ s.ctx.remaining) :
      CtxMove i s { s.ctx with ptr := s.ctx.ptr.advance n, remaining := s.ctx.remaining - n, ep0InBusy := true }
  /-- The zero-length packet of an IN data stage was handed to the PHY (R92). -/
  | zlpSent (hi : i = .evEp0In) (hb : s.ctx.ep0InBusy = true) (hs : s.ctx.stage = .dataIn) :
      CtxMove i s { s.ctx with zlp := false }
  /-- A packet of an OUT data stage was stored, and `left` bytes are still expected (R99). -/
  | packetTaken {d : List Byte} {a left : Word} (hi : i = .evEp0Out d) (ha : s.ctx.ep0OutArmed = true)
      (hs : s.ctx.stage = .dataOut) (hleft : left ≤ s.ctx.remaining) :
      CtxMove i s { s.ctx with ptr := .mem a, remaining := left }
  /-- The data stage ended, and the class was told (R95). -/
  | dataEnded {c : Ctx} (hi : EndsData i s c) : CtxMove i s { c with awaiting := .xferDone }
  /-- The data stage ended, and the status stage began (R95). -/
  | statusBegun {c : Ctx} (hi : EndsData i s c) (hn : s.ctx.notify = false) : CtxMove i s c.statusStarted
  /-- The class accepted the data, and the status stage began (R104). -/
  | xferAccepted (hi : i = .completeXferDone true) (hw : s.ctx.awaiting = .xferDone) :
      CtxMove i s { s.ctx with awaiting := .none }.statusStarted
  /-- The status stage ended (R96). -/
  | ended (hi : EndsStatus i s) (hs : s.ctx.stage = .status) : CtxMove i s Ctx.reset

/-! ### The moves of the device (R133) -/

/-- What the control transfer changes of the device: the lifecycle, the address, the configuration and the STALL cause. -/
structure DeviceSide where
  lc            : Lifecycle
  address       : BitVec 7
  configuration : Byte
  stallCause    : Byte

/-- The device side of a state. An update of any other field keeps it by `rfl`. -/
def State.deviceSide (s : State) : DeviceSide where
  lc            := s.lc
  address       := s.address
  configuration := s.configuration
  stallCause    := s.stallCause

/-- What an execution of `i` from `s` to `t` that does not STALL can make of the device. -/
inductive DeviceMove (i : Instr) (s t : State) : Prop where
  | kept (hside : t.deviceSide = s.deviceSide) (hout : Plain t.out)
  /-- CONNECT (R140). -/
  | connected (hi : i = .connect) (hl : s.lc = .attached) (h : t = moved .powered [.phyConnect] s)
  /-- The bus reset (R134). -/
  | busReset (hi : i = .evReset) (h : t = moved .default [.cbReset] s.busCleared)
  /-- A latched address was applied (R96). -/
  | addressed (hi : i = .evEp0In) (hs : s.ctx.stage = .status) (hv : s.ctx.pendAddrValid = true)
      (h : t = transferEnded s)
  /-- The class accepted a configuration (R115): the lifecycle follows it. -/
  | configured {c : Byte} {new : Lifecycle} (hi : i = .completeSetConfiguration true)
      (hw : s.ctx.awaiting = .setConfiguration) (ha : Addressed s)
      (hnew : new = .configured ∧ c ≠ 0 ∨ new = .address ∧ c = s.configuration)
      (h : t = respondSuccess 0 false (moved new [] (s.selecting c)))

/-! ### STALLs and their reasons (R145) -/

/-- The operation `i` STALLs in `s`, with this cause code, for the reason the constructor states. -/
inductive StallReason : Instr → State → Byte → Prop where
  | inUnexpected {s : State} (h : s.ctx.ep0InBusy = false ∨ s.ctx.stage = .setup ∨ s.ctx.stage = .dataOut) :
      StallReason .evEp0In s 10
  | outUnexpected {s : State} {d : List Byte}
      (h : s.ctx.ep0OutArmed = false ∨ s.ctx.stage = .setup ∨ s.ctx.stage = .dataIn) : StallReason (.evEp0Out d) s 10
  | badData {s : State} {d : List Byte} (hs : s.ctx.stage = .dataOut) (hfit : ¬PacketFits s d.length) :
      StallReason (.evEp0Out d) s 11
  | badStatus {s : State} {d : List Byte} (hs : s.ctx.stage = .status) (hd : d ≠ []) : StallReason (.evEp0Out d) s 11
  | request {s : State} {result : RequestResult} {a x : Word} {c : Byte} (hw : s.ctx.awaiting = .request)
      (hc : StallsWith (.completeRequest result a x) c) : StallReason (.completeRequest result a x) s c
  | xferFailed {s : State} (hw : s.ctx.awaiting = .xferDone) : StallReason (.completeXferDone false) s 7
  | configFailed {s : State} (hw : s.ctx.awaiting = .setConfiguration) :
      StallReason (.completeSetConfiguration false) s 8
  | interfaceFailed {s : State} (hw : s.ctx.awaiting = .setInterface) : StallReason (.completeSetInterface false) s 9
  | aborted {s : State} (h : ¬(s.ctx.stage = .setup ∧ s.ctx.awaiting = .none)) : StallReason .abort s 12

/-- What an operation `i` can make of the control transfer and of the device: it STALLs, or it moves CTX and the device
with no STALL and the cause as it was. -/
inductive ControlStep (i : Instr) (s t : State) : Prop where
  | stalled {c : Byte} (hreason : StallReason i s c) (h : t = stalledWith c s)
  | moved (hctx : CtxMove i s t.ctx) (hdevice : DeviceMove i s t) (hcause : t.stallCause = s.stallCause)
      (hout : .ep0Stall ∉ t.out)

section Steps

variable {i : Instr} {s t u : State}

/-- A step that leaves the device alone and emits neither a STALL nor a notification of the lifecycle. -/
theorem controlStep_of_ctxMove (hctx : CtxMove i s t.ctx) (hside : t.deviceSide = s.deviceSide) (hout : Plain t.out) :
    ControlStep i s t :=
  .moved hctx (.kept hside hout) (congrArg DeviceSide.stallCause hside) (ep0Stall_notMem_of_plain hout)

/-- A step that leaves CTX alone too. -/
theorem controlStep_of_kept (hctx : t.ctx = s.ctx) (hside : t.deviceSide = s.deviceSide) (hout : Plain t.out) :
    ControlStep i s t :=
  controlStep_of_ctxMove (hctx ▸ .kept) hside hout

theorem exec_controlStep_of_onEndpoints (hi : OnEndpoints i) (h : exec i s = .next t) : ControlStep i s t := by
  have hframe : t = _ := exec_tableFrame hi h
  have hctx : t.ctx = s.ctx := by rw [hframe]; rfl
  have hside : t.deviceSide = s.deviceSide := by rw [hframe]; rfl
  exact controlStep_of_kept hctx hside (exec_plain_of_onEndpoints hi h)

/-! ### Moves of the lifecycle -/

theorem ep0Stall_mem_moved {new : Lifecycle} {os : List Output} : .ep0Stall ∈ (moved new os s).out ↔ .ep0Stall ∈ os := by
  rw [moved]
  split
  · rfl
  · simp

theorem moved_ctx (new : Lifecycle) (os : List Output) (s : State) : (moved new os s).ctx = s.ctx := by
  rw [← changeState_emitting, changeState_ctx]
  rfl

theorem moved_stallCause (new : Lifecycle) (os : List Output) (s : State) :
    (moved new os s).stallCause = s.stallCause := by
  rw [← changeState_emitting, changeState_stallCause]
  rfl

theorem exec_connect_controlStep (h : exec .connect s = .next t) : ControlStep .connect s t := by
  rw [exec_connect] at h
  cases h
  split
  · rename_i hl
    refine .moved ?_ (.connected rfl hl rfl) (moved_stallCause ..) (by simp [ep0Stall_mem_moved])
    rw [moved_ctx]
    exact .kept
  · exact controlStep_of_kept rfl rfl (plain_singleton trivial)

theorem exec_evReset_controlStep (h : exec .evReset s = .next t) : ControlStep .evReset s t := by
  rw [exec_evReset] at h
  cases h
  refine .moved ?_ (.busReset rfl rfl) (moved_stallCause ..) (by simp [ep0Stall_mem_moved])
  rw [moved_ctx]
  exact .busReset rfl

/-! ### Power and frame events, and the guard -/

theorem exec_evSof_controlStep {f : BitVec 11} (h : exec (.evSof f) s = .next t) : ControlStep (.evSof f) s t := by
  rw [exec_evSof] at h
  cases h
  split
  · exact controlStep_of_kept rfl rfl (plain_singleton trivial)
  · exact controlStep_of_kept rfl rfl plain_nil

theorem exec_lock_controlStep (h : exec .lock s = .next t) : ControlStep .lock s t := by
  by_cases hfull : s.lockDepth = BitVec.allOnes 32
  · rw [exec_lock_of_full hfull] at h; cases h
  · rw [exec_lock_of_room hfull] at h; cases h; exact controlStep_of_kept rfl rfl plain_nil

theorem exec_unlock_controlStep (h : exec .unlock s = .next t) : ControlStep .unlock s t := by
  by_cases hfree : s.lockDepth = 0
  · rw [exec_unlock_of_free hfree] at h; cases h
  · rw [exec_unlock_of_held hfree] at h; cases h; exact controlStep_of_kept rfl rfl plain_nil

theorem exec_assertLocked_controlStep {k : Context} (h : exec (.assertLocked k) s = .next t) :
    ControlStep (.assertLocked k) s t := by
  by_cases hfree : k = .thread ∧ s.lockDepth = 0
  · obtain ⟨rfl, hfree⟩ := hfree
    rw [exec_assertLocked_of_free hfree] at h; cases h
  · rw [exec_assertLocked_of_held hfree] at h; cases h; exact controlStep_of_kept rfl rfl plain_nil

/-! ### The status stage, and the end of the data stage -/

theorem statusStart_ctx (s : State) : (statusStart s).ctx = s.ctx.statusStarted := by
  unfold Ctx.statusStarted
  rcases statusStart_cases s with ⟨hd, e⟩ | ⟨hd, e⟩ <;> rw [e]
  · rw [if_pos hd]; rfl
  · rw [if_neg hd]; rfl

theorem statusStart_deviceSide (s : State) : (statusStart s).deviceSide = s.deviceSide := by
  rcases statusStart_cases s with ⟨-, e⟩ | ⟨-, e⟩ <;> rw [e] <;> rfl

theorem plain_statusStart (hs : Plain s.out) : Plain (statusStart s).out := by
  rcases statusStart_cases s with ⟨-, e⟩ | ⟨-, e⟩ <;> rw [e] <;> simpa [Output.plain] using hs

/-- A data stage that ended, from a state `u` that has what the event left of CTX. -/
theorem controlStep_dataStageDone (hi : EndsData i s u.ctx) (hn : u.ctx.notify = s.ctx.notify)
    (hside : u.deviceSide = s.deviceSide) (hout : Plain u.out) : ControlStep i s (dataStageDone u) := by
  rcases dataStageDone_cases u with ⟨-, e⟩ | ⟨hf, e⟩ <;> rw [e]
  · exact controlStep_of_ctxMove (.dataEnded hi) hside (by simpa [Output.plain] using hout)
  · refine controlStep_of_ctxMove ?_ ((statusStart_deviceSide u).trans hside) (plain_statusStart hout)
    rw [statusStart_ctx]
    exact .statusBegun hi (hn.symm.trans hf)

theorem transferEnded_ctx (s : State) : (transferEnded s).ctx = Ctx.reset := by
  unfold transferEnded
  split
  · exact moved_ctx ..
  · rfl

theorem minWord_le_left (a b : Word) : minWord a b ≤ a := by
  rw [BitVec.le_def, minWord_toNat]
  exact Nat.min_le_left _ _

theorem minWord_le_right (a b : Word) : minWord a b ≤ b := by
  rw [BitVec.le_def, minWord_toNat]
  exact Nat.min_le_right _ _

theorem exec_evEp0In_controlStep (h : exec .evEp0In s = .next t) : ControlStep .evEp0In s t := by
  obtain ⟨hunexpected, -⟩ := inEventEndsStage s
  have hsent : inPacketSent s.begin = .ok t := operation_next h
  by_cases hreason : s.ctx.ep0InBusy = false ∨ s.ctx.stage = .setup ∨ s.ctx.stage = .dataOut
  · rw [hunexpected hreason] at h; cases h
    exact .stalled (.inUnexpected hreason) rfl
  obtain ⟨hb, hreason⟩ := not_or.1 hreason
  obtain ⟨hsetup, hdataOut⟩ := not_or.1 hreason
  have hb : s.ctx.ep0InBusy = true := eq_true_of_ne_false hb
  cases hs : s.ctx.stage with
  | setup => exact absurd hs hsetup
  | dataOut => exact absurd hs hdataOut
  | dataIn =>
    rcases Nat.eq_zero_or_pos s.ctx.remaining.toNat with hr | hr
    · have hr : s.ctx.remaining = 0 := BitVec.eq_of_toNat_eq hr
      cases hz : s.ctx.zlp
      · rw [inPacketSent_of_last (s := s.begin) hb hs hr hz] at hsent; cases hsent
        exact controlStep_dataStageDone (.sent hb hs hr hz) rfl rfl plain_nil
      · obtain ⟨-, -, hnext⟩ := inEventSendsNextPacket s hb hs
        rw [hnext hr hz] at h; cases h
        exact controlStep_of_ctxMove (.zlpSent rfl hb hs) rfl (plain_singleton trivial)
    · rw [inPacketSent_of_remaining (s := s.begin) hb hs hr] at hsent
      obtain ⟨d, -, -, rfl⟩ := sendNext_ok hsent
      exact controlStep_of_ctxMove (.nextSent rfl hb hs (minWord_le_left _ _)) rfl
        (plain_singleton (o := .ep0Write d) trivial)
  | status =>
    obtain ⟨hends, -⟩ := statusStageEnds s hs
    rw [hends hb] at h; cases h
    have hmove : CtxMove .evEp0In s (transferEnded s).ctx := by
      rw [transferEnded_ctx]
      exact .ended (.inl ⟨rfl, hb⟩) hs
    cases hv : s.ctx.pendAddrValid
    · refine controlStep_of_ctxMove hmove ?_ ?_ <;> rw [transferEnded, hv]
      · rfl
      · exact plain_nil
    · refine .moved hmove (.addressed rfl hs hv rfl) ?_ ?_ <;> rw [transferEnded, if_pos hv]
      · exact moved_stallCause ..
      · simp [ep0Stall_mem_moved]

theorem takeDataPacket_pointer {d : List Byte} (h : takeDataPacket d s = .ok t) :
    ∃ a, s.ctx.ptr = .mem a ∧ (d = [] ∨ s.admits a (BitVec.ofNat 32 d.length) = true) := by
  unfold takeDataPacket at h
  split at h
  · cases h
  · rename_i u hu
    obtain ⟨a, hp, hadm, -⟩ := bufWrite_ok hu
    exact ⟨a, hp, hadm⟩

/-- A data packet that fits is stored, and the stage goes on or ends. -/
theorem exec_evEp0Out_controlStep_of_fits {d : List Byte} (ha : s.ctx.ep0OutArmed = true) (hs : s.ctx.stage = .dataOut)
    (hfit : PacketFits s d.length) (h : exec (.evEp0Out d) s = .next t) : ControlStep (.evEp0Out d) s t := by
  have htaken := (outPacketReceived_of_fits (s := s.begin) ha hs hfit).symm.trans (operation_next h)
  obtain ⟨a, hp, hadm⟩ := takeDataPacket_pointer htaken
  rcases Nat.lt_or_eq_of_le hfit.2.1 with hmore | hlast
  · rw [exec_evEp0Out_of_more ha hs hp hfit hadm hmore] at h; cases h
    refine controlStep_of_ctxMove (.packetTaken rfl ha hs ?_) rfl (plain_singleton trivial)
    have := s.ctx.remaining.isLt
    rw [BitVec.le_def, toNat_word (by omega)]
    omega
  · rw [exec_evEp0Out_of_last ha hs hp hfit hadm hlast, ← dataStageDone_begin] at h; cases h
    refine controlStep_dataStageDone (u := (packetStored a d s).outReported.begin) ?_ rfl rfl plain_nil
    have hzero : BitVec.ofNat 32 (s.ctx.remaining.toNat - d.length) = 0 := by rw [hlast, Nat.sub_self]; rfl
    simp only [begin_ctx, State.outReported, packetStored, hzero]
    exact .received _ ha hs hfit hlast.symm

theorem exec_evEp0Out_controlStep (hinv : RunInv s) {d : List Byte} (h : exec (.evEp0Out d) s = .next t) :
    ControlStep (.evEp0Out d) s t := by
  obtain ⟨hunexpected, -, hdata⟩ := outPacketChecks s d
  by_cases hreason : s.ctx.ep0OutArmed = false ∨ s.ctx.stage = .setup ∨ s.ctx.stage = .dataIn
  · rw [hunexpected hreason] at h; cases h
    exact .stalled (.outUnexpected hreason) rfl
  obtain ⟨ha, hreason⟩ := not_or.1 hreason
  obtain ⟨hsetup, hdataIn⟩ := not_or.1 hreason
  have ha : s.ctx.ep0OutArmed = true := eq_true_of_ne_false ha
  cases hs : s.ctx.stage with
  | setup => exact absurd hs hsetup
  | dataIn => exact absurd hs hdataIn
  | dataOut =>
    by_cases hfit : PacketFits s d.length
    · exact exec_evEp0Out_controlStep_of_fits ha hs hfit h
    · rw [exec_evEp0Out_of_misfit ha hs hfit] at h; cases h
      exact .stalled (.badData hs hfit) rfl
  | status =>
    by_cases hd : d = []
    · subst hd
      have hv := pendAddrValid_of_armed hinv ha
      obtain ⟨-, hends⟩ := statusStageEnds s hs
      rw [hends ha] at h; cases h
      rw [transferEnded, hv]
      exact controlStep_of_ctxMove (.ended (.inr ⟨rfl, ha⟩) hs) rfl plain_nil
    · rw [hdata ha hs hd] at h; cases h
      exact .stalled (.badStatus hs hd) rfl

/-! ### The class's answers, and the standard requests behind them -/

/-- An IN data stage that began, from a state in which the class's answer was taken and REPLY holds `v`. -/
theorem controlStep_sendNext {result : RequestResult} {a x : Word} {p : BufPtr} {size : Word} {notify deferred : Bool}
    {v : Reply} (hresult : result = .send ∨ result = .passThrough) (hw : s.ctx.awaiting = .request)
    (hdir : s.ctx.setup.dirIn = true) (hwl : s.ctx.setup.wLength ≠ 0)
    (hroom : PointerRoom p (minWord size (s.ctx.setup.wLength.setWidth 32)))
    (h : sendNext (sendReady s.ctx.setup.wLength p size notify
      { s.begin with ctx := { s.ctx with awaiting := .none, deferred := deferred, reply := v } }) = .ok t) :
    ControlStep (.completeRequest result a x) s t := by
  obtain ⟨d, -, -, rfl⟩ := sendNext_ok h
  exact controlStep_of_ctxMove
    (.sendBegun rfl hresult hw hdir hwl hroom (minWord_le_left _ _) (minWord_le_right _ _)) rfl
    (plain_singleton (o := .ep0Write d) trivial)

/-- A status stage that began, from a state `u` in which the answer was taken and its effect was made. -/
theorem controlStep_resolved {notify deferred valid : Bool} {a : BitVec 7} (hi : Resolves i s)
    (hvalid : valid = s.ctx.pendAddrValid ∨ s.lc = .default ∨ s.lc = .address) (hside : u.deviceSide = s.deviceSide)
    (hout : Plain u.out) :
    ControlStep i s (enterStatusIn { u with ctx := { s.ctx with
      awaiting := .none
      deferred := deferred
      notify := notify
      direction := .none
      pendAddrValid := valid
      pendAddr := a } }) :=
  controlStep_of_ctxMove (.resolved hi hvalid) hside (plain_append.2 ⟨hout, plain_singleton trivial⟩)

/-- REPLY has room for the two bytes the dispatcher sends at most. -/
theorem pointerRoom_reply {size : Word} (wl : Word) (h : size.toNat ≤ 2) : PointerRoom (.reply 0) (minWord size wl) := by
  refine .inr ⟨0, rfl, ?_⟩
  rw [minWord_toNat]
  exact Nat.le_trans (Nat.le_of_eq (Nat.zero_add _)) (Nat.le_trans (Nat.min_le_left _ _) h)

/-- The dispatcher's causes are those PassThrough can give (R145). -/
theorem stallReason_of_handled {a x : Word} {c : StallCause} (hw : s.ctx.awaiting = .request)
    (hc : c = .reqUnsupported ∨ c = .reqState ∨ c = .reqTarget ∨ c = .descAbsent ∨ c = .resultMismatch) :
    StallReason (.completeRequest .passThrough a x) s c.code := by
  have hcode : 2 ≤ c.code ∧ c.code ≤ 6 := by rcases hc with rfl | rfl | rfl | rfl | rfl <;> decide
  exact .request hw hcode

theorem stallEp_ctx (ep : Byte) (k : Fin 30) (s : State) : (stallEp ep k s).ctx = s.ctx := by
  rw [tableFrame_stallEp ep k s]

theorem stallEp_deviceSide (ep : Byte) (k : Fin 30) (s : State) : (stallEp ep k s).deviceSide = s.deviceSide := by
  rw [tableFrame_stallEp ep k s]
  rfl

theorem unstallEp_deviceSide (ep : Byte) (k : Fin 30) (s : State) :
    (unstallEp ep k s).deviceSide = s.deviceSide := rfl

/-- What the handler of a request does, run by a PassThrough. -/
theorem controlStep_of_handled {a x : Word} {q : Instr} (hw : s.ctx.awaiting = .request)
    (h : Handled q s.ctx.setup.args s.begin.passedOn (.ok t)) :
    ControlStep (.completeRequest .passThrough a x) s t := by
  generalize hx : (Except.ok t : Except Breach State) = y at h
  cases h with
  | stall c hc => cases hx; exact .stalled (stallReason_of_handled hw hc) rfl
  | reply v size h0 hd h2 =>
    exact controlStep_sendNext (.inr rfl) hw hd h0 (pointerRoom_reply _ h2) hx.symm
  | descriptor d h0 hd hi => exact controlStep_sendNext (.inr rfl) hw hd h0 (.inl ⟨_, rfl⟩) hx.symm
  | wakeup b h0 =>
    cases hx
    exact controlStep_resolved (u := { s.begin.passedOn with remoteWakeup := b }) (.passThrough a x hw h0) (.inl rfl)
      rfl plain_nil
  | halt k h0 hi hk =>
    cases hx
    exact controlStep_resolved (.passThrough a x hw h0) (.inl rfl) (stallEp_deviceSide _ k s.begin.passedOn)
      (plain_stallEp _ k plain_nil)
  | unhalt k h0 hi hk =>
    cases hx
    exact controlStep_resolved (.passThrough a x hw h0) (.inl rfl) (unstallEp_deviceSide _ k s.begin.passedOn)
      (plain_unstallEp _ k plain_nil)
  | latch h0 hl =>
    cases hx
    exact controlStep_resolved (u := s.begin.passedOn) (.passThrough a x hw h0) (.inr hl) rfl plain_nil
  | configuration h0 hl =>
    cases hx
    exact controlStep_of_ctxMove (.asked rfl hw h0 (.inl ⟨rfl, hl⟩)) rfl (plain_singleton trivial)
  | interface h0 hl =>
    cases hx
    exact controlStep_of_ctxMove (.asked rfl hw h0 (.inr rfl)) rfl (plain_singleton trivial)

theorem exec_passThrough_controlStep {a x : Word} (hw : s.ctx.awaiting = .request)
    (h : exec (.completeRequest .passThrough a x) s = .next t) :
    ControlStep (.completeRequest .passThrough a x) s t := by
  have hbody := operation_next h
  rw [requestAnswered_passThrough (s := s.begin) hw] at hbody
  cases hd : decodeRequest s.ctx.setup with
  | none =>
    rw [stdDispatch_of_none (s := s.begin.passedOn) hd] at hbody; cases hbody
    exact .stalled (stallReason_of_handled hw (.inl rfl)) rfl
  | some q =>
    rw [stdDispatch_of_request (s := s.begin.passedOn) hd] at hbody
    exact controlStep_of_handled hw (hbody ▸ handler_cases s.begin.passedOn (decodeRequest_args hd).2)

theorem exec_completeRequest_controlStep {result : RequestResult} {a x : Word}
    (h : exec (.completeRequest result a x) s = .next t) : ControlStep (.completeRequest result a x) s t := by
  by_cases hw : s.ctx.awaiting = .request
  case neg =>
    rw [(staleCompletionsAreIgnored s result a x false).1 hw] at h; cases h
    exact controlStep_of_kept rfl rfl plain_nil
  have hbody := operation_next h
  cases result with
  | passThrough => exact exec_passThrough_controlStep hw h
  | failure =>
    rw [requestAnswered_failure (s := s.begin) hw] at hbody; cases hbody
    exact .stalled (.request hw rfl) rfl
  | receive =>
    rw [requestAnswered_receive (s := s.begin) hw] at hbody; cases hbody
    rcases respondReceive_cases s.ctx.setup.dirIn s.ctx.setup.wLength (.mem a) x true s.begin.answered
      with e | ⟨hwl, hdir, hroom, e⟩ <;> rw [begin_ctx, e]
    · exact .stalled (.request hw rfl) rfl
    · exact controlStep_of_ctxMove (.receiveBegun rfl hw hdir hwl hroom) rfl (plain_singleton trivial)
  | send =>
    rw [requestAnswered_send (s := s.begin) hw] at hbody
    rcases respondSend_cases s.ctx.setup.dirIn s.ctx.setup.wLength (.mem a) x true s.begin.answered
      with ⟨-, e⟩ | ⟨hwl, hdir, e⟩ <;> rw [begin_ctx, e] at hbody
    · cases hbody; exact .stalled (.request hw rfl) rfl
    · exact controlStep_sendNext (.inl rfl) hw hdir hwl (.inl ⟨_, rfl⟩) hbody
  | success =>
    rw [requestAnswered_success (s := s.begin) hw] at hbody; cases hbody
    rcases respondSuccess_cases s.ctx.setup.wLength true s.begin.answered with ⟨-, e⟩ | ⟨h0, e⟩ <;> rw [begin_ctx, e]
    · exact .stalled (.request hw rfl) rfl
    · exact controlStep_of_ctxMove (.resolved (.success a x hw h0) (.inl rfl)) rfl (plain_singleton trivial)

theorem exec_completeXferDone_controlStep {b : Bool} (h : exec (.completeXferDone b) s = .next t) :
    ControlStep (.completeXferDone b) s t := by
  rw [plainOperation_next h]
  by_cases hw : s.ctx.awaiting = .xferDone
  case neg =>
    rw [transferAnswered_of_stale (s := s.begin) hw]
    exact controlStep_of_kept rfl rfl plain_nil
  cases b
  · rw [transferAnswered_false (s := s.begin) hw]
    exact .stalled (.xferFailed hw) rfl
  · rw [transferAnswered_true (s := s.begin) hw]
    refine controlStep_of_ctxMove ?_ (statusStart_deviceSide _) (plain_statusStart plain_nil)
    rw [statusStart_ctx]
    exact .xferAccepted rfl hw

theorem respondSuccess_zero (notify : Bool) (s : State) : respondSuccess 0 notify s =
    enterStatusIn { s with ctx := { s.ctx with notify := notify, direction := .none } } :=
  if_neg (not_not_intro rfl)

theorem respondSuccess_zero_out (notify : Bool) (s : State) : (respondSuccess 0 notify s).out = s.out ++ [.ep0Write []] := by
  rw [respondSuccess_zero]
  rfl

theorem respondSuccess_zero_deviceSide (notify : Bool) (s : State) :
    (respondSuccess 0 notify s).deviceSide = s.deviceSide := by
  rw [respondSuccess_zero]
  rfl

/-- The class accepted the configuration `c`, and the lifecycle goes to `new`. -/
theorem controlStep_configured {c : Byte} {new : Lifecycle} (hw : s.ctx.awaiting = .setConfiguration) (ha : Addressed s)
    (hnew : new = .configured ∧ c ≠ 0 ∨ new = .address ∧ c = s.configuration) :
    ControlStep (.completeSetConfiguration true) s (respondSuccess 0 false (moved new [] (s.selecting c))) := by
  refine .moved ?_ (.configured rfl hw ha hnew rfl) ?_ ?_
  · rw [respondSuccess_zero, enterStatusIn_ctx, moved_ctx]
    exact .resolved (.configuration hw) (.inl rfl)
  · exact (congrArg DeviceSide.stallCause (respondSuccess_zero_deviceSide false _)).trans (moved_stallCause ..)
  · rw [respondSuccess_zero_out]
    simp [ep0Stall_mem_moved]

theorem exec_completeSetConfiguration_controlStep (hinv : RunInv s) {b : Bool}
    (h : exec (.completeSetConfiguration b) s = .next t) : ControlStep (.completeSetConfiguration b) s t := by
  rw [plainOperation_next h]
  by_cases hw : s.ctx.awaiting = .setConfiguration
  case neg =>
    rw [configurationSet_of_stale (s := s.begin) hw]
    exact controlStep_of_kept rfl rfl plain_nil
  have hwl : s.ctx.setup.wLength = 0 := hinv.askedWithoutData (.inl hw)
  have ha : Addressed s := hinv.configurationAsked hw
  cases b
  · rw [configurationSet_false (s := s.begin) hw]
    exact .stalled (.configFailed hw) rfl
  by_cases hc : s.ctx.setup.b2 = 0
  · rw [configurationSet_of_zero (s := s.begin) hw hc, changeState_selecting, begin_ctx, hwl]
    exact controlStep_configured hw ha (.inr ⟨rfl, rfl⟩)
  · rw [configurationSet_of_nonzero (s := s.begin) hw hc, changeState_selecting, begin_ctx, hwl]
    exact controlStep_configured hw ha (.inl ⟨rfl, hc⟩)

theorem exec_completeSetInterface_controlStep (hinv : RunInv s) {b : Bool}
    (h : exec (.completeSetInterface b) s = .next t) : ControlStep (.completeSetInterface b) s t := by
  rw [plainOperation_next h]
  by_cases hw : s.ctx.awaiting = .setInterface
  case neg =>
    rw [interfaceSet_of_stale (s := s.begin) hw]
    exact controlStep_of_kept rfl rfl plain_nil
  cases b
  · rw [interfaceSet_false (s := s.begin) hw]
    exact .stalled (.interfaceFailed hw) rfl
  · rw [interfaceSet_true (s := s.begin) hw, begin_ctx, hinv.askedWithoutData (.inr hw), respondSuccess_zero]
    exact controlStep_of_ctxMove (.resolved (.interface hw) (.inl rfl)) rfl (plain_singleton trivial)

theorem exec_abort_controlStep (h : exec .abort s = .next t) : ControlStep .abort s t := by
  obtain ⟨hidle, hends⟩ := abortEndsTransfer s
  by_cases hreason : s.ctx.stage = .setup ∧ s.ctx.awaiting = .none
  · rw [hidle hreason] at h; cases h
    exact controlStep_of_kept rfl rfl plain_nil
  · rw [hends hreason] at h; cases h
    exact .stalled (.aborted hreason) rfl

/-- Every operation STALLs for one of the reasons, or makes one of the moves. -/
theorem exec_controlStep (hinv : RunInv s) (hk : i.kind = .operation) (h : exec i s = .next t) : ControlStep i s t := by
  by_cases hi : OnEndpoints i
  · exact exec_controlStep_of_onEndpoints hi h
  cases i
  case evPower | sofEnable | sofDisable => cases h; exact controlStep_of_kept rfl rfl (plain_singleton trivial)
  case evSuspend => cases h; exact controlStep_of_kept rfl rfl plain_nil
  case evEp0Setup => cases h; exact controlStep_of_ctxMove (.taken rfl) rfl (plain_singleton trivial)
  case evSof => exact exec_evSof_controlStep h
  case connect => exact exec_connect_controlStep h
  case evReset => exact exec_evReset_controlStep h
  case evEp0In => exact exec_evEp0In_controlStep h
  case evEp0Out => exact exec_evEp0Out_controlStep hinv h
  case completeRequest => exact exec_completeRequest_controlStep h
  case completeXferDone => exact exec_completeXferDone_controlStep h
  case completeSetConfiguration => exact exec_completeSetConfiguration_controlStep hinv h
  case completeSetInterface => exact exec_completeSetInterface_controlStep hinv h
  case abort => exact exec_abort_controlStep h
  case lock => exact exec_lock_controlStep h
  case unlock => exact exec_unlock_controlStep h
  case assertLocked => exact exec_assertLocked_controlStep h
  case evOut | evIn | epAdd | epRemove | epStall | epUnstall | readStart | readFinish | write => exact absurd trivial hi
  all_goals cases hk

end Steps

end Sys2Proof.Machine
end

section
/-! The whole-machine statements of the control transfer and the lifecycle, read off from the moves: the invariants of R47,
the STALLs (R145, R151), the lifecycle (R132, R133) and the stages (R87). -/

namespace Sys2Proof.Machine

open Sys2Proof.Safety Sys2Proof.Claims

/-! ### The phases of a control transfer -/

/-- Where a control transfer stands: its stage, the answer it awaits, and the two endpoint-0 flags. -/
structure Ctx.At (c : Ctx) (stage : Stage) (awaiting : Awaiting) (armed busy : Bool) : Prop where
  stage    : c.stage = stage
  awaiting : c.awaiting = awaiting
  armed    : c.ep0OutArmed = armed
  busy     : c.ep0InBusy = busy

/-- The phases of a control transfer: every move of CTX leaves it in one of them. -/
inductive Ctx.Phase (c : Ctx) : Prop where
  | setup {w : Awaiting} (h : c.At .setup w false false) (hw : w ≠ .xferDone)
      (hask : w = .setConfiguration ∨ w = .setInterface → c.setup.wLength = 0)
  | dataIn (h : c.At .dataIn .none false true)
  | dataOut (h : c.At .dataOut .none true false)
  | dataDone {stage : Stage} (hstage : stage = .dataIn ∨ stage = .dataOut) (h : c.At stage .xferDone false false)
      (hr : c.remaining = 0)
  | statusIn (h : c.At .status .none false true)
  | statusOut (h : c.At .status .none true false)

/-- The invariants of `RunInv` that speak of CTX alone. -/
structure CtxInv (s : State) : Prop where
  i3               : AwaitsInSetup s
  i4               : SetupIdle s
  i5               : OneFlag s
  i6               : XferDoneAtEnd s
  i8               : RemainingFits s
  askedWithoutData : AskedWithoutData s
  flagsFitStage    : FlagsFitStage s

section Phases

variable {s t : State}

theorem ctxInv_of_runInv (h : RunInv s) : CtxInv s :=
  ⟨h.i3, h.i4, h.i5, h.i6, h.i8, h.askedWithoutData, h.flagsFitStage⟩

theorem ctxInv_of_ctx_eq (h : t.ctx = s.ctx) (hs : CtxInv s) : CtxInv t where
  i3 := by rw [AwaitsInSetup, h]; exact hs.i3
  i4 := by rw [SetupIdle, h]; exact hs.i4
  i5 := by rw [OneFlag, h]; exact hs.i5
  i6 := by rw [XferDoneAtEnd, h]; exact hs.i6
  i8 := by rw [RemainingFits, h]; exact hs.i8
  askedWithoutData := by rw [AskedWithoutData, h]; exact hs.askedWithoutData
  flagsFitStage := by rw [FlagsFitStage, h]; exact hs.flagsFitStage

/-- A phase fixes the stage, the awaited answer and the flags, and these decide the invariants of CTX. -/
theorem ctxInv_of_phase (h : s.ctx.Phase) (hfit : RemainingFits s) : CtxInv s := by
  obtain ⟨⟨hs, hw, ha, hb⟩, hne, hask⟩ | ⟨hs, hw, ha, hb⟩ | ⟨hs, hw, ha, hb⟩ | ⟨hdata, ⟨hs, hw, ha, hb⟩, hr⟩ |
    ⟨hs, hw, ha, hb⟩ | ⟨hs, hw, ha, hb⟩ := h
  all_goals
    constructor <;> simp_all [AwaitsInSetup, SetupIdle, OneFlag, XferDoneAtEnd, AskedWithoutData, FlagsFitStage]

/-! ### What the invariants say before a move -/

theorem pendAddrValid_of_stage (hinv : RunInv s) (hs : s.ctx.stage ≠ .status) : s.ctx.pendAddrValid = false := by
  cases hv : s.ctx.pendAddrValid
  · rfl
  · exact absurd (hinv.latchedInStatus hv).1 hs

/-- An answer to a request, or to a change of the selection, is awaited in stage Setup with nothing outstanding. -/
theorem at_of_awaited (hinv : RunInv s)
    (hw : s.ctx.awaiting = .request ∨ s.ctx.awaiting = .setConfiguration ∨ s.ctx.awaiting = .setInterface) :
    s.ctx.At .setup s.ctx.awaiting false false := by
  have hs := hinv.i3 hw
  obtain ⟨ha, hb⟩ := hinv.i4 hs
  exact ⟨hs, rfl, ha, hb⟩

theorem awaiting_of_outstanding (hinv : RunInv s) (hs : s.ctx.stage ≠ .setup)
    (hflag : s.ctx.ep0OutArmed = true ∨ s.ctx.ep0InBusy = true) : s.ctx.awaiting = .none := by
  cases hw : s.ctx.awaiting with
  | none => rfl
  | request => exact absurd (hinv.i3 (.inl hw)) hs
  | setConfiguration => exact absurd (hinv.i3 (.inr (.inl hw))) hs
  | setInterface => exact absurd (hinv.i3 (.inr (.inr hw))) hs
  | xferDone =>
    obtain ⟨-, -, ha, hb⟩ := hinv.i6 hw
    rcases hflag with h | h
    · exact absurd (ha.symm.trans h) Bool.noConfusion
    · exact absurd (hb.symm.trans h) Bool.noConfusion

theorem at_of_sending (hinv : RunInv s) (hb : s.ctx.ep0InBusy = true) (hs : s.ctx.stage = .dataIn) :
    s.ctx.At .dataIn .none false true where
  stage := hs
  awaiting := awaiting_of_outstanding hinv (by rw [hs]; exact Stage.noConfusion) (.inr hb)
  armed := Bool.eq_false_iff.2 fun ha => hinv.i5 ⟨ha, hb⟩
  busy := hb

theorem at_of_receiving (hinv : RunInv s) (ha : s.ctx.ep0OutArmed = true) (hs : s.ctx.stage = .dataOut) :
    s.ctx.At .dataOut .none true false where
  stage := hs
  awaiting := awaiting_of_outstanding hinv (by rw [hs]; exact Stage.noConfusion) (.inl ha)
  armed := ha
  busy := Bool.eq_false_iff.2 fun hb => hinv.i5 ⟨ha, hb⟩

/-- Where a data stage has ended, nothing is outstanding, awaited or left to move. -/
theorem endsData_at {i : Instr} {c : Ctx} (hinv : RunInv s) (h : EndsData i s c) :
    (∃ stage, (stage = .dataIn ∨ stage = .dataOut) ∧ c.At stage .none false false) ∧ c.remaining = 0 ∧
      c.pendAddrValid = false := by
  cases h with
  | sent hb hs hr hz =>
    obtain ⟨-, hw, ha, -⟩ := at_of_sending hinv hb hs
    exact ⟨⟨.dataIn, .inl rfl, hs, hw, ha, rfl⟩, hr, pendAddrValid_of_stage hinv (by rw [hs]; exact Stage.noConfusion)⟩
  | received a ha hs hfit hlast =>
    obtain ⟨-, hw, -, hb⟩ := at_of_receiving hinv ha hs
    exact ⟨⟨.dataOut, .inr rfl, hs, hw, rfl, hb⟩, rfl, pendAddrValid_of_stage hinv (by rw [hs]; exact Stage.noConfusion)⟩

theorem resolves_awaited {i : Instr} (h : Resolves i s) :
    s.ctx.awaiting = .request ∨ s.ctx.awaiting = .setConfiguration ∨ s.ctx.awaiting = .setInterface := by
  cases h with
  | success a x hw | passThrough a x hw => exact .inl hw
  | configuration hw => exact .inr (.inl hw)
  | interface hw => exact .inr (.inr hw)

/-! ### The phase after a move -/

theorem statusStarted_stage (c : Ctx) : c.statusStarted.stage = .status := by
  unfold Ctx.statusStarted
  split <;> rfl

theorem statusStarted_remaining (c : Ctx) : c.statusStarted.remaining = c.remaining := by
  unfold Ctx.statusStarted
  split <;> rfl

theorem statusStarted_awaiting (c : Ctx) : c.statusStarted.awaiting = c.awaiting := by
  unfold Ctx.statusStarted
  split <;> rfl

theorem statusStarted_pendAddrValid (c : Ctx) : c.statusStarted.pendAddrValid = c.pendAddrValid := by
  unfold Ctx.statusStarted
  split <;> rfl

theorem phase_statusStarted {c : Ctx} {stage : Stage} (h : c.At stage .none false false) : c.statusStarted.Phase := by
  obtain ⟨-, hw, ha, hb⟩ := h
  unfold Ctx.statusStarted
  split
  · exact .statusOut ⟨rfl, hw, rfl, hb⟩
  · exact .statusIn ⟨rfl, hw, ha, rfl⟩

/-- REMAINING is at most wLength in this CTX (I8 of R47). -/
def Ctx.Fits (c : Ctx) : Prop :=
  c.remaining ≤ c.setup.wLength.setWidth 32

theorem fits_of_zero {c : Ctx} (h : c.remaining = 0) : c.Fits := by
  rw [Ctx.Fits, h]
  exact BitVec.le_def.2 (Nat.zero_le _)

theorem word_sub_le {a b : Word} (h : b ≤ a) : a - b ≤ a := by
  rw [BitVec.le_def] at *
  rw [BitVec.toNat_sub_of_le h]
  exact Nat.sub_le _ _

/-- A move leaves CTX as it was, or the transfer in a phase. -/
theorem phase_of_ctxMove {i : Instr} {c : Ctx} (hinv : RunInv s) (h : CtxMove i s c) :
    c = s.ctx ∨ c.Phase ∧ c.Fits := by
  have hfits : s.ctx.Fits := hinv.i8
  cases h with
  | kept => exact .inl rfl
  | taken => exact .inr ⟨.setup ⟨rfl, rfl, rfl, rfl⟩ nofun nofun, fits_of_zero rfl⟩
  | busReset | ended => exact .inr ⟨.setup ⟨rfl, rfl, rfl, rfl⟩ nofun nofun, fits_of_zero rfl⟩
  | asked hi hw h0 hask =>
    obtain ⟨hs, -, ha, hb⟩ := at_of_awaited hinv (.inl hw)
    refine .inr ⟨.setup ⟨hs, rfl, ha, hb⟩ ?_ fun _ => h0, hfits⟩
    rcases hask with ⟨rfl, -⟩ | rfl <;> exact Awaiting.noConfusion
  | sendBegun hi hresult hw hdir hwl hroom hn hfit =>
    obtain ⟨-, -, ha, -⟩ := at_of_awaited hinv (.inl hw)
    exact .inr ⟨.dataIn ⟨rfl, rfl, ha, rfl⟩, BitVec.le_trans (word_sub_le hn) hfit⟩
  | receiveBegun hi hw =>
    obtain ⟨-, -, -, hb⟩ := at_of_awaited hinv (.inl hw)
    exact .inr ⟨.dataOut ⟨rfl, rfl, rfl, hb⟩, BitVec.le_refl _⟩
  | resolved hi =>
    obtain ⟨-, -, ha, -⟩ := at_of_awaited hinv (resolves_awaited hi)
    exact .inr ⟨.statusIn ⟨rfl, rfl, ha, rfl⟩, hfits⟩
  | nextSent hi hb hs hn =>
    obtain ⟨-, hw, ha, -⟩ := at_of_sending hinv hb hs
    exact .inr ⟨.dataIn ⟨hs, hw, ha, rfl⟩, BitVec.le_trans (word_sub_le hn) hfits⟩
  | zlpSent hi hb hs =>
    obtain ⟨-, hw, ha, -⟩ := at_of_sending hinv hb hs
    exact .inr ⟨.dataIn ⟨hs, hw, ha, hb⟩, hfits⟩
  | packetTaken hi ha hs hleft =>
    obtain ⟨-, hw, -, hb⟩ := at_of_receiving hinv ha hs
    exact .inr ⟨.dataOut ⟨hs, hw, ha, hb⟩, BitVec.le_trans hleft hfits⟩
  | dataEnded hi =>
    obtain ⟨⟨stage, hdata, hs, -, ha, hb⟩, hr, -⟩ := endsData_at hinv hi
    exact .inr ⟨.dataDone hdata ⟨hs, rfl, ha, hb⟩ hr, fits_of_zero hr⟩
  | statusBegun hi hn =>
    obtain ⟨⟨stage, -, hat⟩, hr, -⟩ := endsData_at hinv hi
    exact .inr ⟨phase_statusStarted hat, fits_of_zero ((statusStarted_remaining _).trans hr)⟩
  | xferAccepted hi hw =>
    obtain ⟨-, hr, ha, hb⟩ := hinv.i6 hw
    exact .inr ⟨phase_statusStarted ⟨rfl, rfl, ha, hb⟩, fits_of_zero ((statusStarted_remaining _).trans hr)⟩

/-- After a move an address is latched only in the status stage of a request that Default and Address allow. -/
theorem latched_of_ctxMove {i : Instr} {c : Ctx} (hinv : RunInv s) (h : CtxMove i s c) (hv : c.pendAddrValid = true) :
    c.stage = .status ∧ c.ep0InBusy = true ∧ (s.lc = .default ∨ s.lc = .address) := by
  cases h with
  | kept => exact hinv.latchedInStatus hv
  | resolved hi hvalid =>
    refine ⟨rfl, rfl, ?_⟩
    rcases hvalid with rfl | hl
    · exact (hinv.latchedInStatus hv).2.2
    · exact hl
  | taken | busReset | ended => cases hv
  | asked hi hw | sendBegun hi hresult hw | receiveBegun hi hw =>
    have hs := (at_of_awaited hinv (.inl hw)).stage
    exact absurd hv (Bool.eq_false_iff.1 (pendAddrValid_of_stage hinv (by rw [hs]; exact Stage.noConfusion)))
  | nextSent hi hb hs | zlpSent hi hb hs | packetTaken hi hb hs =>
    exact absurd hv (Bool.eq_false_iff.1 (pendAddrValid_of_stage hinv (by rw [hs]; exact Stage.noConfusion)))
  | dataEnded hi =>
    obtain ⟨-, -, hclear⟩ := endsData_at hinv hi
    exact absurd hv (Bool.eq_false_iff.1 hclear)
  | statusBegun hi hn =>
    obtain ⟨-, -, hclear⟩ := endsData_at hinv hi
    exact absurd hv (Bool.eq_false_iff.1 ((statusStarted_pendAddrValid _).trans hclear))
  | xferAccepted hi hw =>
    obtain ⟨hs, -⟩ := hinv.i6 hw
    have hclear := pendAddrValid_of_stage hinv (by rcases hs with hs | hs <;> rw [hs] <;> exact Stage.noConfusion)
    exact absurd hv (Bool.eq_false_iff.1 ((statusStarted_pendAddrValid _).trans hclear))

/-- After a move the class is asked for a configuration only where Address or Configured allowed it. -/
theorem addressed_of_ctxMove {i : Instr} {c : Ctx} (hinv : RunInv s) (h : CtxMove i s c)
    (hw : c.awaiting = .setConfiguration) : Addressed s := by
  cases h with
  | kept | zlpSent | nextSent | packetTaken => exact hinv.configurationAsked hw
  | asked hi hreq h0 hask =>
    rcases hask with ⟨-, ha⟩ | rfl
    · exact ha
    · cases hw
  | taken | busReset | ended | sendBegun | receiveBegun | resolved | dataEnded => cases hw
  | statusBegun hi hn =>
    obtain ⟨⟨stage, -, hat⟩, -⟩ := endsData_at hinv hi
    rw [statusStarted_awaiting, hat.awaiting] at hw; cases hw
  | xferAccepted => rw [statusStarted_awaiting] at hw; cases hw

end Phases

/-! ### The device after a move -/

theorem moved_lc (new : Lifecycle) (os : List Output) (s : State) : (moved new os s).lc = new := by
  rw [← changeState_emitting, changeState_lc]

theorem moved_address (new : Lifecycle) (os : List Output) (s : State) : (moved new os s).address = s.address := by
  rw [← changeState_emitting, changeState_address]
  rfl

section Device

variable {i : Instr} {s t : State} {new : Lifecycle} {os : List Output}

/-- The lifecycle leaves Configured only with the selection cleared (R132). -/
theorem configuredIff_moved (hs : ConfiguredIff s) (hnew : new ≠ .configured) : ConfiguredIff (moved new os s) := by
  by_cases h : s.lc = new
  · rw [moved, if_pos h]; exact hs
  · rw [moved_of_ne os h hnew]
    exact ⟨fun hc => absurd hc hnew, fun hc => absurd rfl hc⟩

theorem moved_configured_configuration (s : State) : (moved .configured [] s).configuration = s.configuration := by
  rw [moved_configured]
  rfl

theorem configuredIff_of_deviceSide_eq (h : t.deviceSide = s.deviceSide) (hs : ConfiguredIff s) : ConfiguredIff t := by
  have hlc : t.lc = s.lc := congrArg DeviceSide.lc h
  have hconf : t.configuration = s.configuration := congrArg DeviceSide.configuration h
  rw [ConfiguredIff, hlc, hconf]
  exact hs

theorem hasAddress_of_deviceSide_eq (h : t.deviceSide = s.deviceSide) (hs : HasAddress s) : HasAddress t := by
  have hlc : t.lc = s.lc := congrArg DeviceSide.lc h
  have haddr : t.address = s.address := congrArg DeviceSide.address h
  rw [HasAddress, hlc, haddr]
  exact hs

theorem configuredIff_of_deviceMove (hs : ConfiguredIff s) (h : DeviceMove i s t) : ConfiguredIff t := by
  cases h with
  | kept hside => exact configuredIff_of_deviceSide_eq hside hs
  | connected hi hl h => rw [h]; exact configuredIff_moved hs nofun
  | busReset hi h => rw [h]; exact configuredIff_moved (s := s.busCleared) hs nofun
  | addressed hi hstage hv h =>
    rw [h, transferEnded, if_pos hv]
    refine configuredIff_moved hs ?_
    split <;> exact Lifecycle.noConfusion
  | configured hi hw ha hnew h =>
    rw [h]
    refine configuredIff_of_deviceSide_eq (respondSuccess_zero_deviceSide ..) ?_
    rcases hnew with ⟨rfl, hc⟩ | ⟨rfl, rfl⟩
    · rw [ConfiguredIff, moved_lc, moved_configured_configuration]
      exact ⟨fun _ => hc, fun _ => rfl⟩
    · exact configuredIff_moved (s := s.selecting s.configuration) hs nofun

theorem hasAddress_of_deviceMove (hs : HasAddress s) (h : DeviceMove i s t) : HasAddress t := by
  cases h with
  | kept hside => exact hasAddress_of_deviceSide_eq hside hs
  | connected hi hl h => rw [h, HasAddress, moved_lc]; exact nofun
  | busReset hi h => rw [h, HasAddress, moved_lc]; exact nofun
  | addressed hi hstage hv h =>
    rw [h, transferEnded, if_pos hv, HasAddress, moved_lc, moved_address]
    split
    · exact nofun
    · exact fun _ => ‹_›
  | configured hi hw ha hnew h =>
    rw [h]
    refine hasAddress_of_deviceSide_eq (respondSuccess_zero_deviceSide ..) ?_
    rw [HasAddress, moved_address]
    exact fun _ => hs ha

/-- A move of the lifecycle other than CONNECT's leaves a CTX in which no configuration is asked and no address latched. -/
theorem ctx_of_deviceMove (hinv : RunInv s) (h : DeviceMove i s t) :
    t.lc = s.lc ∨ s.lc = .attached ∨ t.ctx.awaiting = .none ∧ t.ctx.pendAddrValid = false := by
  cases h with
  | kept hside => exact .inl (congrArg DeviceSide.lc hside)
  | connected hi hl => exact .inr (.inl hl)
  | busReset hi h => rw [h, moved_ctx]; exact .inr (.inr ⟨rfl, rfl⟩)
  | addressed hi hstage hv h => rw [h, transferEnded_ctx]; exact .inr (.inr ⟨rfl, rfl⟩)
  | configured hi hw ha hnew h =>
    have hs := (at_of_awaited hinv (.inr (.inl hw))).stage
    rw [h, respondSuccess_zero, enterStatusIn_ctx, moved_ctx]
    exact .inr (.inr ⟨rfl, pendAddrValid_of_stage (s := s) hinv (by rw [hs]; exact Stage.noConfusion)⟩)

end Device

/-! ### The invariants from one step to the next (R47) -/

section Invariants

variable {i : Instr} {s t : State}

theorem runInv_of_parts (hctx : CtxInv t) (h1 : ConfiguredIff t) (h2 : HasAddress t) (h7 : TableIdle t)
    (hask : ConfigurationAskedInState t) (hlatch : LatchedInStatus t) : RunInv t where
  i1 := h1
  i2 := h2
  i3 := hctx.i3
  i4 := hctx.i4
  i5 := hctx.i5
  i6 := hctx.i6
  i7 := h7
  i8 := hctx.i8
  configurationAsked := hask
  askedWithoutData := hctx.askedWithoutData
  latchedInStatus := hlatch
  flagsFitStage := hctx.flagsFitStage

theorem ctxInv_of_ctxMove (hinv : RunInv s) (h : CtxMove i s t.ctx) : CtxInv t := by
  rcases phase_of_ctxMove hinv h with hkept | ⟨hphase, hfits⟩
  · exact ctxInv_of_ctx_eq hkept (ctxInv_of_runInv hinv)
  · exact ctxInv_of_phase hphase hfits

theorem configurationAsked_of_moves (hinv : RunInv s) (hctx : CtxMove i s t.ctx) (hdevice : DeviceMove i s t) :
    ConfigurationAskedInState t := by
  intro hw
  have ha : Addressed s := addressed_of_ctxMove hinv hctx hw
  rcases ctx_of_deviceMove hinv hdevice with hl | hl | ⟨hnone, -⟩
  · rw [hl]; exact ha
  · rw [Addressed, hl] at ha; rcases ha with ha | ha <;> cases ha
  · rw [hnone] at hw; cases hw

theorem latchedInStatus_of_moves (hinv : RunInv s) (hctx : CtxMove i s t.ctx) (hdevice : DeviceMove i s t) :
    LatchedInStatus t := by
  intro hv
  obtain ⟨hstage, hbusy, hallowed⟩ := latched_of_ctxMove hinv hctx hv
  refine ⟨hstage, hbusy, ?_⟩
  rcases ctx_of_deviceMove hinv hdevice with hl | hl | ⟨-, hclear⟩
  · rw [hl]; exact hallowed
  · rw [hl] at hallowed; rcases hallowed with h | h <;> cases h
  · rw [hclear] at hv; cases hv

/-- An idle CTX meets the invariants beside any device and table that do. -/
theorem runInv_of_ctx_reset (hctx : t.ctx = Ctx.reset) (h1 : ConfiguredIff t) (h2 : HasAddress t) (h7 : TableIdle t) :
    RunInv t := by
  refine runInv_of_parts (ctxInv_of_phase ?_ ?_) h1 h2 h7 ?_ ?_
  · rw [hctx]; exact .setup ⟨rfl, rfl, rfl, rfl⟩ nofun nofun
  · exact fits_of_zero (congrArg Ctx.remaining hctx)
  · rw [ConfigurationAskedInState, hctx]; exact nofun
  · rw [LatchedInStatus, hctx]; exact nofun

/-- An operation keeps the invariants. -/
theorem exec_runInv (hinv : RunInv s) (hk : i.kind = .operation) (h : exec i s = .next t) : RunInv t := by
  have htable : TableIdle t := tableIdle_of_tableStep hinv.i7 (exec_tableStep h)
  cases exec_controlStep hinv hk h with
  | stalled hreason h => subst h; exact runInv_of_ctx_reset rfl hinv.i1 hinv.i2 hinv.i7
  | moved hctx hdevice =>
    exact runInv_of_parts (ctxInv_of_ctxMove hinv hctx) (configuredIff_of_deviceMove hinv.i1 hdevice)
      (hasAddress_of_deviceMove hinv.i2 hdevice) htable (configurationAsked_of_moves hinv hctx hdevice)
      (latchedInStatus_of_moves hinv hctx hdevice)

/-- The two states agree in all that the invariants speak of. -/
structure SameMachine (s t : State) : Prop where
  ctx    : t.ctx = s.ctx
  device : t.deviceSide = s.deviceSide
  et     : t.et = s.et

theorem runInv_of_sameMachine (h : SameMachine s t) (hs : RunInv s) : RunInv t := by
  obtain ⟨hctx, hdevice, het⟩ := h
  have hlc : t.lc = s.lc := congrArg DeviceSide.lc hdevice
  refine runInv_of_parts (ctxInv_of_ctx_eq hctx (ctxInv_of_runInv hs)) (configuredIff_of_deviceSide_eq hdevice hs.i1)
    (hasAddress_of_deviceSide_eq hdevice hs.i2) ?_ ?_ ?_
  · exact tableIdle_of_tableStep (i := .abort) hs.i7 (tableStep_of_et_eq het)
  · rw [ConfigurationAskedInState, hctx, hlc]; exact hs.configurationAsked
  · rw [LatchedInStatus, hctx, hlc]; exact hs.latchedInStatus

/-- A step is an operation on the same machine, or leaves the machine the same: a property of the machine that every
operation keeps is kept by every step. -/
theorem step_keeps {P : State → Prop} (hsame : ∀ {s t}, SameMachine s t → P s → P t)
    (hexec : ∀ {i s t}, i.kind = .operation → P s → exec i s = .next t → P t) (hs : P s) (h : step s = .next t) :
    P t := by
  cases hn : nextInput s with
  | none => rw [step_of_no_input hn] at h; cases h; exact hsame (s := s) ⟨rfl, rfl, rfl⟩ hs
  | some taken =>
    obtain ⟨x, rest⟩ := taken
    rw [step_of_nextInput hn] at h
    cases x with
    | record bs =>
      cases hd : decodeRecord bs with
      | ok i =>
        rw [perform_record_of_ok _ hd] at h
        exact hexec (encoding_of_decodeRecord hd).2.1 (hsame (s := s) (t := { s with inputs := rest }) ⟨rfl, rfl, rfl⟩ hs) h
      | error e => rw [perform_record_of_error _ hd] at h; cases h
    | callerStore | callerLend => cases h; exact hsame (s := s) ⟨rfl, rfl, rfl⟩ hs

end Invariants

/-- Settles O13: every operation leaves the control transfer in a phase, the device as R133 moves it, and the table idle. -/
theorem stepKeepsInvariants : Obligations.StepKeepsInvariants :=
  fun _ _ => step_keeps runInv_of_sameMachine fun hk hinv => exec_runInv hinv hk

/-! ### The unit reset, and every state after it (R46, R47) -/

section Reset

variable {s : State}

theorem sameMachine_of_started (h : Started s) : SameMachine State.reset s := by
  rw [h]
  exact ⟨rfl, rfl, rfl⟩

theorem started_ep (h : Started s) (i : Fin 30) : s.ep i = EpRecord.empty := by
  rw [h]
  exact reset_ep i

theorem runInv_of_started (h : Started s) : RunInv s := by
  have hep := started_ep h
  obtain ⟨hctx, hdevice, -⟩ := sameMachine_of_started h
  refine runInv_of_ctx_reset hctx (configuredIff_of_deviceSide_eq hdevice ⟨nofun, fun hc => absurd rfl hc⟩)
    (hasAddress_of_deviceSide_eq hdevice nofun) fun i => ?_
  rw [hep i]
  exact ⟨by decide, fun _ => rfl⟩

/-- Settles O12: CTX at reset is idle, and every record is the empty one. -/
theorem invariantsAtReset : Obligations.InvariantsAtReset := by
  intro s h
  have hep := started_ep h
  obtain ⟨hctx, -, -⟩ := sameMachine_of_started h
  refine ⟨runInv_of_started h, ?_, fun i => ?_, fun i => ?_⟩
  · rw [PointerInBounds, hctx]; exact ⟨nofun, nofun⟩
  · rw [hep i]; exact ⟨rfl, nofun⟩
  · rw [hep i]; exact fun _ => rfl

theorem runInv_of_reachable (h : Reachable s) : RunInv s := by
  induction h with
  | start h => exact runInv_of_started h
  | step _ h ih => exact stepKeepsInvariants _ _ ih h

/-- Settles O14, by induction over the run. -/
theorem reachableStatesKeepRule47 : Obligations.ReachableStatesKeepRule47 :=
  fun _ h => (runInv_of_reachable h).toSpecInv

end Reset

/-! ### The buffer pointer (R55) -/

section Pointer

variable {i : Instr} {s t : State}

/-- Past `n` bytes a pointer has room for `n` fewer. -/
theorem pointerRoom_advance {p : BufPtr} {total n : Word} (h : PointerRoom p total) (hn : n ≤ total) :
    PointerRoom (p.advance n) (total - n) := by
  rcases h with ⟨a, rfl⟩ | ⟨o, rfl, ho⟩
  · exact .inl ⟨a + n, rfl⟩
  · refine .inr ⟨o + n.setWidth 2, rfl, ?_⟩
    rw [BitVec.le_def] at hn
    rw [BitVec.toNat_sub_of_le hn, BitVec.toNat_add, BitVec.toNat_setWidth]
    omega

theorem pointerInBounds_of_ctxMove (hinv : RunInv s) (hs : PointerInBounds s) (h : CtxMove i s t.ctx) :
    PointerInBounds t := by
  obtain ⟨hin, hout⟩ := hs
  unfold PointerInBounds
  generalize t.ctx = c at h
  cases h with
  | kept | zlpSent => exact ⟨hin, hout⟩
  | taken | busReset | ended | resolved => exact ⟨nofun, nofun⟩
  | asked hi hw =>
    have hstage := (at_of_awaited hinv (.inl hw)).stage
    exact ⟨fun h => Stage.noConfusion (hstage.symm.trans h), fun h => Stage.noConfusion (hstage.symm.trans h)⟩
  | sendBegun hi hresult hw hdir hwl hroom hn => exact ⟨fun _ => pointerRoom_advance hroom hn, nofun⟩
  | receiveBegun => exact ⟨nofun, fun _ => ⟨_, rfl⟩⟩
  | nextSent hi hb hstage hn =>
    exact ⟨fun _ => pointerRoom_advance (hin hstage) hn, fun h => Stage.noConfusion (hstage.symm.trans h)⟩
  | packetTaken hi ha hstage => exact ⟨fun h => Stage.noConfusion (hstage.symm.trans h), fun _ => ⟨_, rfl⟩⟩
  | dataEnded hi =>
    cases hi with
    | sent => exact ⟨hin, hout⟩
    | received a ha hstage => exact ⟨fun h => Stage.noConfusion (hstage.symm.trans h), fun _ => ⟨a, rfl⟩⟩
  | statusBegun | xferAccepted => rw [statusStarted_stage]; exact ⟨nofun, nofun⟩

theorem exec_pointerInBounds (hinv : RunInv s) (hs : PointerInBounds s) (hk : i.kind = .operation)
    (h : exec i s = .next t) : PointerInBounds t := by
  cases exec_controlStep hinv hk h with
  | stalled hreason h => subst h; exact ⟨nofun, nofun⟩
  | moved hctx => exact pointerInBounds_of_ctxMove hinv hs hctx

/-- All that the pointer, the flags and the stalled endpoints need from one step to the next. -/
structure BoundedInv (s : State) : Prop where
  run     : RunInv s
  pointer : PointerInBounds s
  flags   : FlagsWellFormed s
  idle    : StalledIdle s

theorem boundedInv_of_sameMachine (h : SameMachine s t) (hs : BoundedInv s) : BoundedInv t where
  run := runInv_of_sameMachine h hs.run
  pointer := by rw [PointerInBounds, h.ctx]; exact hs.pointer
  flags := flagsWellFormed_of_tableStep (i := .abort) hs.flags (tableStep_of_et_eq h.et)
  idle := stalledIdle_of_tableStep (i := .abort) hs.idle (tableStep_of_et_eq h.et)

theorem exec_boundedInv (hk : i.kind = .operation) (hs : BoundedInv s) (h : exec i s = .next t) : BoundedInv t where
  run := exec_runInv hs.run hk h
  pointer := exec_pointerInBounds hs.run hs.pointer hk h
  flags := flagsWellFormed_of_tableStep hs.flags (exec_tableStep h)
  idle := stalledIdle_of_tableStep hs.idle (exec_tableStep h)

end Pointer

/-- Settles O16: the pointer moves with the count of bytes left, and each record as a step can leave it. -/
theorem stepKeepsPointerAndFlags : Obligations.StepKeepsPointerAndFlags := by
  intro s t hinv hpointer hflags hidle h
  obtain ⟨-, hpointer', hflags', hidle'⟩ :=
    step_keeps boundedInv_of_sameMachine exec_boundedInv ⟨hinv, hpointer, hflags, hidle⟩ h
  exact ⟨hpointer', hflags', hidle'⟩

/-! ### STALLs (R37, R145, R151) -/

theorem stallsWith_of_stallReason {i : Instr} {s : State} {c : Byte} (h : StallReason i s c) : StallsWith i c := by
  cases h with
  | inUnexpected | xferFailed | configFailed | interfaceFailed | aborted => exact rfl
  | outUnexpected => exact .inl rfl
  | badData | badStatus => exact .inr rfl
  | request hw hc => exact hc

/-- Settles O19: AbortStall's state with the reason's code, and in every other step the cause as it was. -/
theorem stallsRecordTheirCause : Obligations.StallsRecordTheirCause := by
  intro s t i hinv hk h
  cases exec_controlStep hinv hk h with
  | stalled hreason h =>
    subst h
    exact ⟨fun _ => ⟨_, stallsWith_of_stallReason hreason, rfl, rfl, rfl, rfl, rfl⟩,
      fun hnone => absurd (List.mem_singleton_self _) hnone⟩
  | moved hctx hdevice hcause hout => exact ⟨fun hmem => absurd hmem hout, fun _ => hcause⟩

/-! ### The lifecycle (R132, R133) -/

/-- A notification of the lifecycle. -/
def Output.isStateChange : Output → Bool
  | .cbStateChange _ => true
  | _ => false

/-- From `s` to `t` the lifecycle stays and nothing notifies it, or it changes, which is notified once and clears the
selection unless the device becomes Configured. -/
def LifecycleTold (s t : State) : Prop :=
  (t.lc = s.lc ∧ ∀ lc, .cbStateChange lc ∉ t.out) ∨
  (t.lc ≠ s.lc ∧ t.out.filter Output.isStateChange = [.cbStateChange t.lc] ∧
    (t.lc ≠ .configured → t.configuration = 0 ∧ t.iface = 0 ∧ t.alternate = 0))

theorem filter_isStateChange_of_plain {os : List Output} (h : Plain os) : os.filter Output.isStateChange = [] := by
  refine List.filter_eq_nil_iff.2 fun o ho => ?_
  have hplain := h o ho
  cases o with
  | cbStateChange => exact absurd hplain id
  | _ => exact Bool.false_ne_true

section Lifecycle

variable {i : Instr} {s t : State} {new : Lifecycle} {os : List Output}

theorem lifecycleTold_moved (hos : Plain os) : LifecycleTold s (moved new os s) := by
  by_cases h : s.lc = new
  · rw [moved, if_pos h]
    exact .inl ⟨rfl, cbStateChange_notMem_of_plain hos⟩
  · refine .inr ⟨by rw [moved_lc]; exact Ne.symm h, ?_, ?_⟩ <;> rw [moved_lc]
    · simp only [moved, if_neg h, List.filter_append, filter_isStateChange_of_plain hos, List.nil_append]
      rfl
    · intro hc
      rw [moved_of_ne os h hc]
      exact ⟨rfl, rfl, rfl⟩

theorem lifecycleTold_respondSuccess (h : LifecycleTold s t) : LifecycleTold s (respondSuccess 0 false t) := by
  have hplain : Plain [.ep0Write []] := plain_singleton trivial
  rw [respondSuccess_zero]
  rcases h with ⟨hlc, hnone⟩ | ⟨hlc, htold, hclear⟩
  · refine .inl ⟨hlc, fun lc hmem => ?_⟩
    rcases List.mem_append.1 hmem with hmem | hmem
    · exact hnone lc hmem
    · exact cbStateChange_notMem_of_plain hplain lc hmem
  · refine .inr ⟨hlc, ?_, hclear⟩
    rw [enterStatusIn_out, List.filter_append, filter_isStateChange_of_plain hplain, List.append_nil]
    exact htold

theorem lifecycleTold_of_deviceMove (h : DeviceMove i s t) : LifecycleTold s t := by
  cases h with
  | kept hside hout => exact .inl ⟨congrArg DeviceSide.lc hside, cbStateChange_notMem_of_plain hout⟩
  | connected hi hl h => rw [h]; exact lifecycleTold_moved (plain_singleton trivial)
  | busReset hi h => rw [h]; exact lifecycleTold_moved (s := s.busCleared) (plain_singleton trivial)
  | addressed hi hstage hv h =>
    rw [h, transferEnded, if_pos hv]
    exact lifecycleTold_moved (s := { s with ctx := Ctx.reset, address := s.ctx.pendAddr }) (plain_singleton trivial)
  | configured hi hw ha hnew h =>
    rw [h]
    exact lifecycleTold_respondSuccess (lifecycleTold_moved (s := s.selecting _) plain_nil)

/-- A latched address is applied in Default or Address, and takes the device to the other of them or leaves it. -/
theorem lifecycleChange_of_addressed (hinv : RunInv s) (hs : s.ctx.stage = .status) (hv : s.ctx.pendAddrValid = true)
    (hne : (transferEnded s).lc ≠ s.lc) : LifecycleChange .evEp0In s (transferEnded s).lc := by
  obtain ⟨-, -, hallowed⟩ := hinv.latchedInStatus hv
  rw [transferEnded, if_pos hv, moved_lc] at *
  refine .inr (.inr (.inl ⟨rfl, hs, hv, ?_⟩))
  by_cases ha : s.ctx.pendAddr = 0
  · rw [if_pos ha] at *
    exact .inr ⟨ha, hallowed.resolve_left (Ne.symm hne), rfl⟩
  · rw [if_neg ha] at *
    exact .inl ⟨ha, hallowed.resolve_right (Ne.symm hne), rfl⟩

theorem lifecycleChange_of_deviceMove (hinv : RunInv s) (h : DeviceMove i s t) (hne : t.lc ≠ s.lc) :
    LifecycleChange i s t.lc := by
  cases h with
  | kept hside => exact absurd (congrArg DeviceSide.lc hside) hne
  | connected hi hl h => rw [h, moved_lc]; exact .inl ⟨hi, hl, rfl⟩
  | busReset hi h => rw [h, moved_lc]; exact .inr (.inl ⟨hi, rfl⟩)
  | addressed hi hstage hv h => subst hi h; exact lifecycleChange_of_addressed hinv hstage hv hne
  | @configured c new hi hw ha hnew h =>
    have hlc : t.lc = new := by
      rw [h]
      exact (congrArg DeviceSide.lc (respondSuccess_zero_deviceSide false _)).trans (moved_lc ..)
    rw [hlc] at hne ⊢
    refine .inr (.inr (.inr ⟨hi, ?_⟩))
    rcases hnew with ⟨rfl, -⟩ | ⟨rfl, -⟩
    · exact .inl ⟨ha.resolve_right (Ne.symm hne), rfl⟩
    · exact .inr ⟨ha.resolve_left (Ne.symm hne), rfl⟩

end Lifecycle

/-- Settles O20: ChangeState tells what it does, and the device moves in the listed transitions alone. -/
theorem lifecycleTransitions : Obligations.LifecycleTransitions := by
  intro s t i hinv hk h
  cases exec_controlStep hinv hk h with
  | stalled hreason h => subst h; exact .inl ⟨rfl, fun lc hmem => by cases List.mem_singleton.1 hmem⟩
  | moved hctx hdevice =>
    rcases lifecycleTold_of_deviceMove hdevice with hkept | ⟨hne, htold, hclear⟩
    · exact .inl hkept
    · exact .inr ⟨hne, lifecycleChange_of_deviceMove hinv hdevice hne, htold, hclear⟩

/-! ### The stages (R87) -/

section Stages

variable {i : Instr} {s t : State}

theorem not_stalled_of_notMem (h : .ep0Stall ∉ t.out) : ¬Stalled t :=
  fun hstalled => h (hstalled ▸ List.mem_singleton_self _)

/-- Nothing was outstanding for EV_EP0_IN to report, and the flag says so wherever the stage does (R98). -/
theorem stageChange_of_inUnexpected (hinv : RunInv s) (ht : t.ctx.stage = .setup) (hstalled : Stalled t)
    (h : s.ctx.ep0InBusy = false ∨ s.ctx.stage = .setup ∨ s.ctx.stage = .dataOut) :
    s.ctx.stage = .setup ∨ StageChange .evEp0In s t := by
  obtain ⟨hbusy, -⟩ := hinv.flagsFitStage
  unfold StageChange
  cases hs : s.ctx.stage <;> rw [hs] at h hbusy <;> rw [ht]
  case setup => exact .inl rfl
  case dataIn => exact .inr ⟨h.resolve_right nofun, hstalled⟩
  case dataOut => exact .inr ⟨Bool.eq_false_iff.2 fun hb => absurd (hbusy hb) nofun, hstalled⟩
  case status => exact .inr ((if_neg (Bool.eq_false_iff.1 (h.resolve_right nofun))).mpr hstalled)

/-- Nothing was armed for EV_EP0_OUT to report, and the flag says so wherever the stage does (R99). -/
theorem stageChange_of_outUnexpected {d : List Byte} (hinv : RunInv s) (ht : t.ctx.stage = .setup) (hstalled : Stalled t)
    (h : s.ctx.ep0OutArmed = false ∨ s.ctx.stage = .setup ∨ s.ctx.stage = .dataIn) :
    s.ctx.stage = .setup ∨ StageChange (.evEp0Out d) s t := by
  obtain ⟨-, harmed⟩ := hinv.flagsFitStage
  unfold StageChange
  cases hs : s.ctx.stage <;> rw [hs] at h harmed <;> rw [ht]
  case setup => exact .inl rfl
  case dataIn => exact .inr ⟨Bool.eq_false_iff.2 fun ha => absurd (harmed ha) nofun, hstalled⟩
  case dataOut => exact .inr ⟨.inl (h.resolve_right nofun), hstalled⟩
  case status =>
    exact .inr ((if_neg fun hfit => Bool.eq_false_iff.1 (h.resolve_right nofun) hfit.1).mpr hstalled)

/-- ABORT is in the table from every stage. -/
theorem stageChange_of_aborted (ht : t.ctx.stage = .setup) (hstalled : Stalled t)
    (h : ¬(s.ctx.stage = .setup ∧ s.ctx.awaiting = .none)) : StageChange .abort s t := by
  unfold StageChange
  rw [ht]
  cases hs : s.ctx.stage <;> rw [hs] at h <;> exact ⟨h, hstalled⟩

/-- A STALL outside stage Setup is a row of the table. -/
theorem stageChange_of_stallReason {c : Byte} (hinv : RunInv s) (ht : t.ctx.stage = .setup) (hstalled : Stalled t)
    (h : StallReason i s c) : s.ctx.stage = .setup ∨ StageChange i s t := by
  cases h with
  | inUnexpected h => exact stageChange_of_inUnexpected hinv ht hstalled h
  | outUnexpected h => exact stageChange_of_outUnexpected hinv ht hstalled h
  | aborted h => exact .inr (stageChange_of_aborted ht hstalled h)
  | request hw => exact .inl (at_of_awaited hinv (.inl hw)).stage
  | configFailed hw => exact .inl (at_of_awaited hinv (.inr (.inl hw))).stage
  | interfaceFailed hw => exact .inl (at_of_awaited hinv (.inr (.inr hw))).stage
  | badData hs hmisfit =>
    unfold StageChange
    rw [hs, ht]
    exact .inr ⟨.inr hmisfit, hstalled⟩
  | badStatus hs hd =>
    unfold StageChange
    rw [hs, ht]
    exact .inr ((if_neg fun hfit => hd hfit.2).mpr hstalled)
  | xferFailed hw =>
    unfold StageChange
    rw [ht]
    rcases hinv.i6 hw with ⟨hs | hs, -⟩ <;> rw [hs] <;> exact .inr ⟨hw, hstalled⟩

/-- An answer that begins the status stage is a row of the table. -/
theorem stageChange_of_resolves (hinv : RunInv s) (h : Resolves i s) (ht : t.ctx.stage = .status) :
    StageChange i s t := by
  have hs := (at_of_awaited hinv (resolves_awaited h)).stage
  unfold StageChange
  rw [hs, ht]
  cases h with
  | success a x hw h0 | passThrough a x hw h0 => exact ⟨hw, h0⟩
  | configuration hw | interface hw => exact hw

/-- The end of a data stage nobody is told of is a row of the table. -/
theorem stageChange_of_endsData {c : Ctx} (h : EndsData i s c) (hn : s.ctx.notify = false)
    (ht : t.ctx.stage = .status) : StageChange i s t := by
  unfold StageChange
  cases h with
  | sent hb hs hr hz => rw [hs, ht]; exact ⟨hb, hr, hz, hn⟩
  | received a ha hs hfit hlast => rw [hs, ht]; exact ⟨ha, hfit, hlast, hn⟩

theorem stageChange_of_endsStatus (h : EndsStatus i s) (hs : s.ctx.stage = .status) (ht : t.ctx.stage = .setup)
    (hquiet : ¬Stalled t) : StageChange i s t := by
  unfold StageChange
  rw [hs, ht]
  rcases h with ⟨rfl, hb⟩ | ⟨rfl, ha⟩
  · exact (if_pos hb).mpr hquiet
  · exact (if_pos ⟨ha, rfl⟩).mpr hquiet

/-- A move of CTX that changes the stage is a row of the table. -/
theorem stageChange_of_ctxMove (hinv : RunInv s) (h : CtxMove i s t.ctx) (hquiet : ¬Stalled t) :
    t.ctx.stage = s.ctx.stage ∨ StageChange i s t := by
  generalize hc : t.ctx = c at h
  cases h with
  | kept | asked | nextSent | zlpSent | packetTaken => exact .inl rfl
  | dataEnded hi => cases hi <;> exact .inl rfl
  | taken hi | busReset hi =>
    subst hi
    unfold StageChange
    rw [hc]
    cases s.ctx.stage <;> exact .inr ⟨rfl, hquiet⟩
  | sendBegun hi hresult hw hdir hwl =>
    have hs := (at_of_awaited hinv (.inl hw)).stage
    subst hi
    unfold StageChange
    rw [hc, hs]
    rcases hresult with rfl | rfl <;> exact .inr ⟨hw, hdir, hwl⟩
  | receiveBegun hi hw hdir hwl hroom =>
    have hs := (at_of_awaited hinv (.inl hw)).stage
    subst hi
    unfold StageChange
    rw [hc, hs]
    exact .inr ⟨hw, hdir, hwl, hroom⟩
  | resolved hi => exact .inr (stageChange_of_resolves hinv hi (by rw [hc]))
  | statusBegun hi hn => exact .inr (stageChange_of_endsData hi hn (by rw [hc, statusStarted_stage]))
  | xferAccepted hi hw =>
    subst hi
    unfold StageChange
    rw [hc, statusStarted_stage]
    rcases hinv.i6 hw with ⟨hs | hs, -⟩ <;> rw [hs] <;> exact .inr hw
  | ended hi hs => exact .inr (stageChange_of_endsStatus hi hs (by rw [hc]; rfl) hquiet)

end Stages

/-- Settles O21: a STALL is a row of the table for its reason, and a move of CTX for what it makes of the stage. -/
theorem stageTransitions : Obligations.StageTransitions := by
  intro s t i hinv hk h
  cases exec_controlStep hinv hk h with
  | stalled hreason h =>
    subst h
    exact (stageChange_of_stallReason (t := stalledWith _ s) hinv rfl rfl hreason).imp_left Eq.symm
  | moved hctx hdevice hcause hout => exact stageChange_of_ctxMove hinv hctx (not_stalled_of_notMem hout)

end Sys2Proof.Machine
end
